-- ==== Sys2Proof/Word.lean ====
section
/-!
DEFINITION. The command word and the two small alphabets every layer uses: the level a line is driven to and the six
signal roles (spec/00_scope.md R6, R9; spec/30_encoding.md R70).
-/

namespace Sys2Proof

/-- A command word: the 64 bits presented on the command port (30_encoding.md R70). -/
abbrev Word := BitVec 64

/-- The level a `Write` event drives: `L` or `H` (00_scope.md R9). -/
inductive Level where
  | low
  | high
deriving DecidableEq, Repr, Inhabited

/-- The six signal roles (00_scope.md R6, R24). -/
inductive Role where
  | blank
  | prog
  | latch
  | gsclk
  | serial
  | clk
deriving DecidableEq, Repr

end Sys2Proof
end

