-- ==== Sys2Proof/Syntax.lean ====
section
/-!
DEFINITION. The nine commands, one constructor per row of spec/opcode_table.json (30_encoding.md R71). Operands are the
integers the block takes (30_encoding.md R72) and the level of BLANK (R73).
-/

namespace Sys2Proof

/-- A command. `ch` and `val` are mathematical integers, as `setDot(channel:int, value:int)`; the ranges the command
port can carry are `Instr.wellFormed` (log 17). -/
inductive Instr where
  /-- `initialise()`, 41_init_reset.md R120. -/
  | init
  /-- `reset()`, 41_init_reset.md R121. -/
  | reset
  /-- `setDot(channel, value)`, 42_channel_values.md R140. -/
  | setdot (ch val : Int)
  /-- `setGrey(channel, value)`, 42_channel_values.md R141. -/
  | setgrey (ch val : Int)
  /-- `write_dot_values()`, 43_serial_writes.md R150. -/
  | wrdot
  /-- `write_grey_values()`, 43_serial_writes.md R151. -/
  | wrgrey
  /-- `pulse_clk()`, 44_pwm_blank.md R170. -/
  | pulse
  /-- `blank(level)`, 44_pwm_blank.md R173. -/
  | blank (lvl : Level)
  /-- `cleanup()`, 45_cleanup.md R190. -/
  | cleanup
deriving DecidableEq, Repr

end Sys2Proof
end

