-- ==== Sys2Proof/WellFormed.lean ====
section
/-!
DEFINITION. Which terms of `Instr` the command port can carry: CH is a signed 16-bit field and VAL a signed 32-bit
field (30_encoding.md R72). These are the two checks the assembler of R81 makes.
-/

namespace Sys2Proof

/-- The channel operand fits the CH field: -32768..32767 (30_encoding.md R72). -/
def channelFits (ch : Int) : Bool := decide (-32768 ≤ ch) && decide (ch ≤ 32767)

/-- The value operand fits the VAL field: -2147483648..2147483647 (30_encoding.md R72). -/
def valueFits (val : Int) : Bool := decide (-2147483648 ≤ val) && decide (val ≤ 2147483647)

/-- The command can be presented on the port (30_encoding.md R72, R81). -/
def Instr.wellFormed : Instr → Bool
  | .init => true
  | .reset => true
  | .setdot ch val => channelFits ch && valueFits val
  | .setgrey ch val => channelFits ch && valueFits val
  | .wrdot => true
  | .wrgrey => true
  | .pulse => true
  | .blank _ => true
  | .cleanup => true

end Sys2Proof
end

