-- ==== Sys2Proof/Decode.lean ====
section
/-!
DEFINITION. The command word: its fields (30_encoding.md R70), decoding as a total function of the 64 bits (R75), and
after it the encoder (R81) and the opcode table (spec/opcode_table.json) as data.
-/

namespace Sys2Proof

/-- OP = `w[3:0]` (30_encoding.md R70). -/
def opField (w : Word) : BitVec 4 := w.extractLsb' 0 4
/-- RSV0 = `w[7:4]` (30_encoding.md R70). -/
def rsv0Field (w : Word) : BitVec 4 := w.extractLsb' 4 4
/-- L = `w[8]` (30_encoding.md R70). -/
def lField (w : Word) : BitVec 1 := w.extractLsb' 8 1
/-- RSV1 = `w[15:9]` (30_encoding.md R70). -/
def rsv1Field (w : Word) : BitVec 7 := w.extractLsb' 9 7
/-- CH = `w[31:16]` (30_encoding.md R70). -/
def chField (w : Word) : BitVec 16 := w.extractLsb' 16 16
/-- VAL = `w[63:32]` (30_encoding.md R70). -/
def valField (w : Word) : BitVec 32 := w.extractLsb' 32 32

/-- `lvl = w[8]`: 1 is HIGH, 0 is LOW (30_encoding.md R73, R80). -/
def levelOfField (l : BitVec 1) : Level := if l = 1#1 then .high else .low

/-- Why a word is illegal. All illegal words behave the same (30_encoding.md R76); the reason is only a name. -/
inductive IllegalReason where
  /-- OP 0x0 or 0xA..0xF. -/
  | opcode
  /-- RSV0 or RSV1 non-zero. -/
  | reserved
  /-- A non-zero L, CH or VAL that R74 requires to be zero. -/
  | unusedField
deriving DecidableEq, Repr

/-- The result of decoding (30_encoding.md R75): one command, or Illegal. -/
inductive Decoded where
  | cmd (i : Instr)
  | illegal (why : IllegalReason)
deriving DecidableEq, Repr

/-- The two commands with CH and VAL operands (30_encoding.md R74, R75); `mk` is the command. -/
def decodeSet (mk : Int → Int → Instr) (w : Word) : Decoded :=
  if lField w ≠ 0#1 then .illegal .unusedField
  else .cmd (mk (chField w).toInt (valField w).toInt)

/-- BLANK, whose only operand is L (30_encoding.md R74, R75). -/
def decodeBlank (w : Word) : Decoded :=
  if chField w ≠ 0#16 ∨ valField w ≠ 0#32 then .illegal .unusedField
  else .cmd (.blank (levelOfField (lField w)))

/-- A command with no operand: every field but OP is zero (30_encoding.md R74, R75). -/
def decodeBare (i : Instr) (w : Word) : Decoded :=
  if lField w ≠ 0#1 ∨ chField w ≠ 0#16 ∨ valField w ≠ 0#32 then .illegal .unusedField
  else .cmd i

/-- Decoding by opcode, the reserved fields known to be zero (30_encoding.md R71, R75). -/
def decodeOp (w : Word) : Decoded :=
  match (opField w).toNat with
  | 0x1 => decodeBare .init w
  | 0x2 => decodeBare .reset w
  | 0x3 => decodeSet .setdot w
  | 0x4 => decodeSet .setgrey w
  | 0x5 => decodeBare .wrdot w
  | 0x6 => decodeBare .wrgrey w
  | 0x7 => decodeBare .pulse w
  | 0x8 => decodeBlank w
  | 0x9 => decodeBare .cleanup w
  | _ => .illegal .opcode

/-- Decoding, a total function of the 64-bit word (30_encoding.md R75). -/
def decode (w : Word) : Decoded :=
  if opField w = 0x0#4 ∨ 0x9#4 < opField w then .illegal .opcode
  else if rsv0Field w ≠ 0#4 ∨ rsv1Field w ≠ 0#7 then .illegal .reserved
  else decodeOp w

/-- The instruction in a word of spec/opcode_table.json's numbering, the bits above `nbits` being zero. There is one
length, 64 bits, and the word is parallel, so there is no order of bytes to apply (20_memory.md R52; R76). -/
def decodeTableWord (nbits w : Nat) : Option Instr :=
  match decode (BitVec.ofNat 64 (w % 2 ^ nbits)) with
  | .cmd i => some i
  | .illegal _ => none

/-- The opcode of a command (30_encoding.md R71). -/
def opcodeOf : Instr → BitVec 4
  | .init => 0x1#4
  | .reset => 0x2#4
  | .setdot _ _ => 0x3#4
  | .setgrey _ _ => 0x4#4
  | .wrdot => 0x5#4
  | .wrgrey => 0x6#4
  | .pulse => 0x7#4
  | .blank _ => 0x8#4
  | .cleanup => 0x9#4

/-- The L field of a command (30_encoding.md R73, R74). -/
def lOf : Instr → BitVec 1
  | .blank .high => 1#1
  | .blank .low => 0#1
  | .init => 0#1
  | .reset => 0#1
  | .setdot _ _ => 0#1
  | .setgrey _ _ => 0#1
  | .wrdot => 0#1
  | .wrgrey => 0#1
  | .pulse => 0#1
  | .cleanup => 0#1

/-- The CH field of a command, two's complement (30_encoding.md R72, R74). -/
def chOf : Instr → BitVec 16
  | .setdot ch _ => BitVec.ofInt 16 ch
  | .setgrey ch _ => BitVec.ofInt 16 ch
  | .init => 0#16
  | .reset => 0#16
  | .wrdot => 0#16
  | .wrgrey => 0#16
  | .pulse => 0#16
  | .blank _ => 0#16
  | .cleanup => 0#16

/-- The VAL field of a command, two's complement (30_encoding.md R72, R74). -/
def valOf : Instr → BitVec 32
  | .setdot _ val => BitVec.ofInt 32 val
  | .setgrey _ val => BitVec.ofInt 32 val
  | .init => 0#32
  | .reset => 0#32
  | .wrdot => 0#32
  | .wrgrey => 0#32
  | .pulse => 0#32
  | .blank _ => 0#32
  | .cleanup => 0#32

/-- `w = zext_64(op) | (lvl << 8) | (zext_16(ch) << 16) | (zext_32(val) << 32)` (30_encoding.md R81). -/
def packWord (op : BitVec 4) (l : BitVec 1) (ch : BitVec 16) (val : BitVec 32) : Word :=
  op.setWidth 64 ||| (l.setWidth 64 <<< 8) ||| (ch.setWidth 64 <<< 16) ||| (val.setWidth 64 <<< 32)

/-- The word of a command (30_encoding.md R81). -/
def encode (i : Instr) : Word := packWord (opcodeOf i) (lOf i) (chOf i) (valOf i)

/-- One row of spec/opcode_table.json. -/
structure OpcodeRow where
  mnemonic : String
  mtch : Word
  mask : Word
deriving DecidableEq, Repr

/-- spec/opcode_table.json, row by row. -/
def opcodeTable : List OpcodeRow :=
  [ ⟨"INIT", 0x0000000000000001#64, 0xFFFFFFFFFFFFFFFF#64⟩,
    ⟨"RESET", 0x0000000000000002#64, 0xFFFFFFFFFFFFFFFF#64⟩,
    ⟨"SETDOT", 0x0000000000000003#64, 0x000000000000FFFF#64⟩,
    ⟨"SETGREY", 0x0000000000000004#64, 0x000000000000FFFF#64⟩,
    ⟨"WRDOT", 0x0000000000000005#64, 0xFFFFFFFFFFFFFFFF#64⟩,
    ⟨"WRGREY", 0x0000000000000006#64, 0xFFFFFFFFFFFFFFFF#64⟩,
    ⟨"PULSE", 0x0000000000000007#64, 0xFFFFFFFFFFFFFFFF#64⟩,
    ⟨"BLANK", 0x0000000000000008#64, 0xFFFFFFFFFFFFFEFF#64⟩,
    ⟨"CLEANUP", 0x0000000000000009#64, 0xFFFFFFFFFFFFFFFF#64⟩ ]

/-- The mnemonic of a command (30_encoding.md R71). -/
def mnemonicOf : Instr → String
  | .init => "INIT"
  | .reset => "RESET"
  | .setdot _ _ => "SETDOT"
  | .setgrey _ _ => "SETGREY"
  | .wrdot => "WRDOT"
  | .wrgrey => "WRGREY"
  | .pulse => "PULSE"
  | .blank _ => "BLANK"
  | .cleanup => "CLEANUP"

/-- A word is one of a row: `(w & mask) = match` (30_encoding.md, its opening paragraph). -/
def OpcodeRow.selects (r : OpcodeRow) (w : Word) : Bool := w &&& r.mask == r.mtch

end Sys2Proof
end

