-- ==== Sys2Proof/Config.lean ====
section
/-!
DEFINITION. What is fixed for the model or left open by the spec: the free values (each an opaque constant with no body,
applied to the plain counter `State.draws`) and the default parameters of a state after reset.
-/

namespace Sys2Proof.Config

/-- Free value: the chip's shift register SR, where R230 or R233 say "any value" (log 9). -/
opaque freeSr : Nat → BitVec 192

/-- Free value: the chip's dot-correction register DCR, where R230 says "any value" (log 9). -/
opaque freeDcr : Nat → BitVec 96

/-- Free value: the chip's latched grayscale register GSL, where R230 says "any value" (log 9). -/
opaque freeGsl : Nat → BitVec 192

/-- Free value: the chip's active grayscale register GSA, where R230 says "any value" (log 9). -/
opaque freeGsa : Nat → BitVec 192

/-- Free value: the chip's PWM count GSCNT, 0..4096, where R230 says "any value" (log 9). -/
opaque freeGscnt : Nat → Fin 4097

/-- Free value: whether the chip counts a GSCLK HIGH that starts from an unknown level (R234, R259; log 9). -/
opaque freeEdgeCounts : Nat → Bool

/-- Free value: the bit the chip shifts in when the level of SERIAL is not known (log 12). -/
opaque freeSerialBit : Nat → Bool

/-- Free value: whether a call answered FAIL changed its line all the same (R211; log 11). -/
opaque freeFailedCallActs : Nat → Bool

/-- PRELEVEL: the level a line holds before the block first writes it, a draw for each construction and role
(00_scope.md R7, 92_eei_decisions.md D17; log 13). -/
opaque preLevel : Nat → Role → Level

/-- The default CONFIG_ORDER of 92_eei_decisions.md D16: BLANK, PROG, LATCH, GSCLK, SERIAL, CLK (log 3). -/
def defaultConfigOrder : List Role := [.blank, .prog, .latch, .gsclk, .serial, .clk]

end Sys2Proof.Config
end

