-- ==== Sys2Proof/Machine/State.lean ====
section
/-!
DEFINITION. What the machine holds (spec/10_state.md), as plain data: the block's registers, the spec's ghost state, the
observer of the attached chip (60_exceptions.md section 7), the parameters of 00_scope.md R7, and the model's own inputs
and counters. There is no memory (20_memory.md R50). INVENTORY.md lists every field.
-/

namespace Sys2Proof.Machine

/-- One value for each of the six roles. -/
structure RoleFile (α : Type) where
  blank : α
  prog : α
  latch : α
  gsclk : α
  serial : α
  clk : α
deriving DecidableEq, Repr

/-- One call the block makes on the Pin Interface (10_state.md R30). -/
inductive Event where
  | configure (r : Role)
  | write (r : Role) (lv : Level)
  | teardown
deriving DecidableEq, Repr

/-- An event as the physical port carries it: the line instead of the role (10_state.md R30), and the level as the bit that
encodes it (30_encoding.md R80). -/
inductive PortCall where
  | configureOutput (line : Nat)
  | write (line : Nat) (bit : BitVec 1)
  | teardown
deriving DecidableEq, Repr

/-- The level the block last drove on a line: U, 0, 1 or REL (10_state.md R25). -/
inductive LineLevel where
  | unknown
  | low
  | high
  | released
deriving DecidableEq, Repr

/-- The block's phase (10_state.md R26). -/
inductive Phase where
  | uninit
  | ready
  | cancelled
  | released
  | fault
deriving DecidableEq, Repr

/-- The grayscale lifecycle, ghost state (10_state.md R33). -/
inductive GreyLife where
  | uninitialized
  | idle
  | valuesStaged
  | shiftedNotLatched
  | latchedPendingRefresh
  | displayed
deriving DecidableEq, Repr

/-- The dot-correction lifecycle, ghost state (10_state.md R34). -/
inductive DotLife where
  | uninitialized
  | idle
  | valuesStaged
  | shiftedNotLatched
  | latchedActive
deriving DecidableEq, Repr

/-- The causes a fault records (60_exceptions.md R201). -/
inductive Cause where
  | illegalCmd
  | notInitialised
  | releasedPhase
  | cancelledPhase
  | overrun
  | pinConfig
  | pinWrite
  | pinTeardown
deriving DecidableEq, Repr

/-- The fault record, four read-only registers (10_state.md R31). -/
structure FaultRecord where
  cause : BitVec 4
  cmd : Word
  idx : BitVec 14
  role : BitVec 3
deriving DecidableEq, Repr

/-- The Pin Interface's answer to a call (40_sequencer.md R100). -/
inductive Answer where
  | ok
  | fail
deriving DecidableEq, Repr

/-- What the block samples at one step (40_sequencer.md R100; block reset: 70_reset_and_hazards.md R250). `rst` carries
the PINMAP the construction is to bind, a line or none for each role. -/
structure HostInput where
  rst : Option (RoleFile (Option Nat))
  cancel : Bool
  cmdValid : Bool
  cmd : Word
deriving DecidableEq, Repr

/-- The observer of the attached TLC5940 (60_exceptions.md R230). -/
structure Chip where
  sr : BitVec 192
  dcr : BitVec 96
  gsl : BitVec 192
  gsa : BitVec 192
  gscnt : Nat
deriving DecidableEq, Repr

/-- The status port (10_state.md R32). -/
structure Status where
  phase : BitVec 3
  busy : Bool
  fault : FaultRecord
deriving DecidableEq, Repr

/-- The machine. -/
structure State where
  /-- DOT[0..15] (10_state.md R20). -/
  dot : Vector (BitVec 6) 16
  /-- GREY[0..15] (10_state.md R21). -/
  grey : Vector (BitVec 12) 16
  /-- FIRST (10_state.md R23). -/
  first : Bool
  /-- LEVEL[r] (10_state.md R25). -/
  level : RoleFile LineLevel
  /-- CFG[r] (10_state.md R27). -/
  cfg : RoleFile Bool
  /-- PHASE (10_state.md R26). -/
  phase : Phase
  /-- CUR (10_state.md R28). -/
  cur : Option Word
  /-- Q (10_state.md R28). -/
  queue : List Event
  /-- IDX (10_state.md R28, R36). -/
  idx : BitVec 14
  /-- TRACE (10_state.md R30). -/
  trace : List Event
  /-- FAULT_CAUSE, FAULT_CMD, FAULT_IDX, FAULT_ROLE (10_state.md R31). -/
  fault : FaultRecord
  /-- GLC (10_state.md R33). -/
  glc : GreyLife
  /-- DLC (10_state.md R34). -/
  dlc : DotLife
  /-- The attached chip (60_exceptions.md R230). -/
  chip : Chip
  /-- PINMAP (10_state.md R24). -/
  pins : RoleFile Nat
  /-- CONFIG_ORDER (00_scope.md R7). -/
  configOrder : List Role
  /-- What the host presents at the coming steps, one entry a step; nothing after the last (log 1). -/
  inputs : List HostInput
  /-- PINIF: the answers to the coming calls, one entry a call (00_scope.md R7; log 2). -/
  answers : List Answer
  /-- PINIF: the answer to every call after those listed in `answers` (log 2). -/
  laterAnswer : Answer
  /-- The model's own counter: the index of the next free value (log 14). -/
  draws : Nat
  /-- The model's own counter: the index of this construction's PRELEVEL (log 13). -/
  preDraw : Nat
deriving DecidableEq, Repr

/-- No step of this machine ends in a fault: every fault of the spec is a state in the phase FAULT, with the fault record
written (60_exceptions.md R200), so there is no constructor (log 24). -/
inductive Fault where
deriving DecidableEq, Repr

/-- Why a step answers no state. -/
inductive Refusal where
  /-- Raised by an arm of `exec` for an instruction that has no meaning yet; no arm does so now. Safe. -/
  | notModelled (mnemonic : String)
  /-- Raised by a step that samples `rst` with a PINMAP that leaves a role unbound or binds two roles to one line:
  construction is refused, there is no block (70_reset_and_hazards.md R251). Safe. -/
  | constructionRefused
deriving DecidableEq, Repr

/-- The whole observer at any value: the `n`-th free values (60_exceptions.md R230; log 9). -/
def Chip.free (n : Nat) : Chip where
  sr := Config.freeSr n
  dcr := Config.freeDcr n
  gsl := Config.freeGsl n
  gsa := Config.freeGsa n
  gscnt := (Config.freeGscnt n).val

/-- The machine right after construction (10_state.md section 9; 70_reset_and_hazards.md R250). The spec gives no PINMAP
and no answers of the Pin Interface: logs 2 and 3 name those here. -/
def State.reset : State where
  dot := Vector.replicate 16 0x3F#6
  grey := Vector.replicate 16 0xFFF#12
  first := true
  level := ⟨.unknown, .unknown, .unknown, .unknown, .unknown, .unknown⟩
  cfg := ⟨false, false, false, false, false, false⟩
  phase := .uninit
  cur := none
  queue := []
  idx := 0#14
  trace := []
  fault := ⟨0#4, 0#64, 0#14, 7#3⟩
  glc := .uninitialized
  dlc := .uninitialized
  chip := Chip.free 0
  pins := ⟨0, 1, 2, 3, 4, 5⟩
  configOrder := Config.defaultConfigOrder
  inputs := []
  answers := []
  laterAnswer := .ok
  draws := 1
  preDraw := 0

end Sys2Proof.Machine
end

