-- ==== Sys2Proof/Machine/Operands.lean ====
section
/-!
DEFINITION. The operand forms and small encodings of the spec: the clamped channel and value (42_channel_values.md R142,
R143), the per-role files, the codes of the status port (30_encoding.md R89, R90; 60_exceptions.md R201), the wire frames
(30_encoding.md R77, R78) and the physical port (10_state.md R30).
-/

namespace Sys2Proof.Machine

/-- `clamp(lo, hi, v) = min(hi, max(lo, v))` over integers (00_scope.md R9). -/
def clamp (lo hi v : Int) : Int := min hi (max lo v)

/-- `slot(c) = 15 - c` (42_channel_values.md R143). -/
def slotOfChannel (c : Nat) : Fin 16 := ⟨15 - c, by omega⟩

/-- The slot a channel operand selects: `15 - clamp(0, 15, ch)` (42_channel_values.md R140). -/
def slotOf (ch : Int) : Fin 16 := slotOfChannel (clamp 0 15 ch).toNat

/-- The value SETDOT stores: `clamp(0, 63, val)` in 6 bits (42_channel_values.md R140). -/
def dotValue (val : Int) : BitVec 6 := BitVec.ofInt 6 (clamp 0 63 val)

/-- The value SETGREY stores: `clamp(0, 4095, val)` in 12 bits (42_channel_values.md R141). -/
def greyValue (val : Int) : BitVec 12 := BitVec.ofInt 12 (clamp 0 4095 val)

/-- Read the entry of a role. -/
def RoleFile.get {α : Type} (f : RoleFile α) : Role → α
  | .blank => f.blank
  | .prog => f.prog
  | .latch => f.latch
  | .gsclk => f.gsclk
  | .serial => f.serial
  | .clk => f.clk

/-- Write the entry of a role. -/
def RoleFile.set {α : Type} (f : RoleFile α) (r : Role) (v : α) : RoleFile α :=
  match r with
  | .blank => { f with blank := v }
  | .prog => { f with prog := v }
  | .latch => { f with latch := v }
  | .gsclk => { f with gsclk := v }
  | .serial => { f with serial := v }
  | .clk => { f with clk := v }

/-- The same entry for every role. -/
def RoleFile.all {α : Type} (v : α) : RoleFile α := ⟨v, v, v, v, v, v⟩

/-- Bit value 1 is driven HIGH, 0 LOW (30_encoding.md R80). -/
def levelOfBit (b : Bool) : Level := if b then .high else .low

/-- On the pin-event port `L` is encoded 0 and `H` 1 (30_encoding.md R80). -/
def portBit : Level → BitVec 1
  | .low => 0#1
  | .high => 1#1

/-- The recorded level after a successful write (10_state.md R25). -/
def lineLevelOf : Level → LineLevel
  | .low => .low
  | .high => .high

/-- Role codes (30_encoding.md R89). -/
def roleCode : Role → BitVec 3
  | .blank => 0#3
  | .prog => 1#3
  | .latch => 2#3
  | .gsclk => 3#3
  | .serial => 4#3
  | .clk => 5#3

/-- The code recorded in FAULT_ROLE: 7 means no role (10_state.md R31). -/
def roleCodeOf : Option Role → BitVec 3
  | some r => roleCode r
  | none => 7#3

/-- PHASE codes (30_encoding.md R90). -/
def phaseCode : Phase → BitVec 3
  | .uninit => 0#3
  | .ready => 1#3
  | .cancelled => 2#3
  | .released => 3#3
  | .fault => 4#3

/-- Cause codes (60_exceptions.md R201). -/
def causeCode : Cause → BitVec 4
  | .illegalCmd => 1#4
  | .notInitialised => 2#4
  | .releasedPhase => 3#4
  | .cancelledPhase => 4#4
  | .overrun => 5#4
  | .pinConfig => 6#4
  | .pinWrite => 7#4
  | .pinTeardown => 8#4

/-- The role an event addresses, if it has one (60_exceptions.md R200). -/
def eventRole : Event → Option Role
  | .configure r => some r
  | .write r _ => some r
  | .teardown => none

/-- Values concatenated with the first in the high bits, `w` bits each. -/
def concatValues (w n : Nat) (vs : List Nat) : BitVec n :=
  vs.foldl (fun acc v => (acc <<< w) ||| BitVec.ofNat n v) 0

/-- The sixteen values of a register file, slot 0 first. -/
def slotValues {w : Nat} (f : Vector (BitVec w) 16) : List Nat := f.toList.map BitVec.toNat

/-- The dot-correction frame `DCW = {DOT[0], ..., DOT[15]}` (30_encoding.md R77). -/
def dotFrame (f : Vector (BitVec 6) 16) : BitVec 96 := concatValues 6 96 (slotValues f)

/-- The grayscale frame `GSW = {GREY[0], ..., GREY[15]}` (30_encoding.md R78). -/
def greyFrame (f : Vector (BitVec 12) 16) : BitVec 192 := concatValues 12 192 (slotValues f)

/-- The field of logical channel `c` in a dot-correction register: bits `6c+5 : 6c` (30_encoding.md R79). -/
def dotField (r : BitVec 96) (c : Nat) : BitVec 6 := r.extractLsb' (6 * c) 6

/-- The field of logical channel `c` in a grayscale register: bits `12c+11 : 12c` (30_encoding.md R79). -/
def greyField (r : BitVec 192) (c : Nat) : BitVec 12 := r.extractLsb' (12 * c) 12

/-- An event on the physical port: the line `PINMAP(r)` stands for the role (10_state.md R30), the bit for the level
(30_encoding.md R80). -/
def portCall (pins : RoleFile Nat) : Event → PortCall
  | .configure r => .configureOutput (pins.get r)
  | .write r lv => .write (pins.get r) (portBit lv)
  | .teardown => .teardown

/-- The six lines of a PINMAP that binds every role (70_reset_and_hazards.md R251). -/
def boundPins (req : RoleFile (Option Nat)) : Option (RoleFile Nat) :=
  match req.blank, req.prog, req.latch, req.gsclk, req.serial, req.clk with
  | some a, some b, some c, some d, some e, some f => some ⟨a, b, c, d, e, f⟩
  | _, _, _, _, _, _ => none

/-- No two roles share a line (10_state.md R24). -/
def pinsDistinct (p : RoleFile Nat) : Bool :=
  decide [p.blank, p.prog, p.latch, p.gsclk, p.serial, p.clk].Nodup

end Sys2Proof.Machine
end

