-- ==== Sys2Proof/Machine/Flags.lean ====
section
/-!
DEFINITION. The one flag of the block, FIRST, and what it gates (41_init_reset.md R122), and the two ghost lifecycles as
they move when an event completes (10_state.md R33, R34).
-/

namespace Sys2Proof.Machine

/-- The one-shot CLK pulse, emitted if and only if FIRST = 1 at acceptance (41_init_reset.md R122). -/
def oneShot (first : Bool) : List Event :=
  if first then [.write .clk .high, .write .clk .low] else []

/-- The command being executed is `i`. -/
def curIs (cur : Option Word) (i : Instr) : Bool := cur == some (encode i)

/-- GLC after the event `e` of the command `cur` completes, `rest` being the events left (10_state.md R33): WRGREY's LATCH
HIGH makes ShiftedNotLatched into LatchedPendingRefresh, and PULSE's last event makes LatchedPendingRefresh or Idle into
Displayed. -/
def greyLifeAfter (cur : Option Word) (e : Event) (rest : List Event) (g : GreyLife) : GreyLife :=
  if curIs cur .wrgrey && e == .write .latch .high && g == .shiftedNotLatched then .latchedPendingRefresh
  else if curIs cur .pulse && rest.isEmpty && (g == .latchedPendingRefresh || g == .idle) then .displayed
  else g

/-- DLC after the event `e` of the command `cur` completes (10_state.md R34): WRDOT's LATCH HIGH makes it LatchedActive. -/
def dotLifeAfter (cur : Option Word) (e : Event) (d : DotLife) : DotLife :=
  if curIs cur .wrdot && e == .write .latch .high then .latchedActive else d

end Sys2Proof.Machine
end

