-- ==== Sys2Proof/Machine/Ops.lean ====
section
/-!
DEFINITION. The shared operations of the machine: SHIFTOUT (40_sequencer.md R108), the chip observer (60_exceptions.md
R230 to R236), fault entry (R200), cancel (40_sequencer.md R107), emission (R104 to R106), admission and acceptance (R101,
R103), construction (70_reset_and_hazards.md R250, R251) and what the host reads (10_state.md R32).
-/

namespace Sys2Proof.Machine

/-! ## Event lists -/

/-- Bits `w-1` down to 0 of one value, most significant first: SERIAL, CLK HIGH, CLK LOW for each (40_sequencer.md
R108). -/
def shiftValue (v : Nat) : Nat → List Event
  | 0 => []
  | b + 1 =>
    .write .serial (levelOfBit (v.testBit b)) :: .write .clk .high :: .write .clk .low :: shiftValue v b

/-- `SHIFTOUT(V, w)`: the values in list order (40_sequencer.md R108). -/
def shiftOut (vs : List Nat) (w : Nat) : List Event :=
  match vs with
  | [] => []
  | v :: rest => shiftValue v w ++ shiftOut rest w

/-- A pulse: HIGH followed by LOW on one role (00_scope.md, glossary). -/
def pulseOf (r : Role) : List Event := [.write r .high, .write r .low]

/-- `repeat n { E }` (00_scope.md R9). -/
def repeatEvents : Nat → List Event → List Event
  | 0, _ => []
  | n + 1, es => es ++ repeatEvents n es

/-! ## What the host reads -/

/-- `BUSY = (Q ≠ [])` (10_state.md R29). -/
def State.busy (s : State) : Bool := !s.queue.isEmpty

/-- `cmd_ready = not BUSY and PHASE ≠ FAULT` (10_state.md R29). -/
def State.cmdReady (s : State) : Bool := !s.busy && decide (s.phase ≠ .fault)

/-- The status port (10_state.md R32). -/
def State.status (s : State) : Status := ⟨phaseCode s.phase, s.busy, s.fault⟩

/-- TRACE as the physical port carried it (10_state.md R30). -/
def State.portTrace (s : State) : List PortCall := s.trace.map (portCall s.pins)

/-- The PWM cycle timer: inside a PULSE the count of grayscale pulses is `(IDX - 2) div 2` while `IDX ≥ 2`; before its
first pulse and outside a PULSE there is no count, the timer does not run (44_pwm_blank.md R172). -/
def State.pwmCount (s : State) : Option Nat :=
  if curIs s.cur .pulse = true ∧ 2 ≤ s.idx.toNat then some ((s.idx.toNat - 2) / 2) else none

/-- The recorded fault leaves the level of the line of `r` open: the failing call addressed it (40_sequencer.md R105). -/
def State.lineInDoubt (s : State) (r : Role) : Bool :=
  s.fault.cause == causeCode .pinTeardown ||
    ((s.fault.cause == causeCode .pinWrite || s.fault.cause == causeCode .pinConfig) && s.fault.role == roleCode r)

/-- The level the line of `r` shows, where the spec fixes one: the level last driven, or PRELEVEL before the first write
(10_state.md R25, 92_eei_decisions.md D17); none for a released line or after a failed call (log 13). -/
def State.lineShows (s : State) (r : Role) : Option Level :=
  match s.level.get r with
  | .low => some .low
  | .high => some .high
  | .released => none
  | .unknown => if s.lineInDoubt r then none else some (Config.preLevel s.preDraw r)

/-- The output gate of the chip: while `LEVEL[BLANK] = 1` every output is off (60_exceptions.md R234), LOW enables them
(44_pwm_blank.md R173). Where BLANK was released or is at no known level the rules say neither. -/
def State.outputsEnabled (s : State) : Option Bool :=
  match s.level.blank with
  | .high => some false
  | .low => some true
  | .unknown => none
  | .released => none

/-! ## The chip observer -/

/-- A rising CLK edge: `SR <- {SR[190:0], LEVEL[SERIAL]}` if CLK was LOW (60_exceptions.md R231). With CLK at no known
level SR is any value, with SERIAL at none the bit is any (log 12). -/
def Chip.shift (lv : RoleFile LineLevel) (n : Nat) (c : Chip) : Chip :=
  match lv.clk with
  | .low =>
    match lv.serial with
    | .low => { c with sr := c.sr.shiftConcat false }
    | .high => { c with sr := c.sr.shiftConcat true }
    | .unknown => { c with sr := c.sr.shiftConcat (Config.freeSerialBit n) }
    | .released => { c with sr := c.sr.shiftConcat (Config.freeSerialBit n) }
  | .high => c
  | .unknown => { c with sr := Config.freeSr n }
  | .released => { c with sr := Config.freeSr n }

/-- A LATCH HIGH from LOW commits SR to DCR or GSL as PROG selects (60_exceptions.md R232). With LATCH or PROG at no known
level both are any value (log 12). -/
def Chip.commit (lv : RoleFile LineLevel) (n : Nat) (c : Chip) : Chip :=
  match lv.latch with
  | .low =>
    match lv.prog with
    | .high => { c with dcr := c.sr.extractLsb' 0 96 }
    | .low => { c with gsl := c.sr }
    | .unknown => { c with dcr := Config.freeDcr n, gsl := Config.freeGsl n }
    | .released => { c with dcr := Config.freeDcr n, gsl := Config.freeGsl n }
  | .high => c
  | .unknown => { c with dcr := Config.freeDcr n, gsl := Config.freeGsl n }
  | .released => { c with dcr := Config.freeDcr n, gsl := Config.freeGsl n }

/-- A BLANK HIGH: `GSCNT <- 0` and `GSA <- GSL` (60_exceptions.md R234). -/
def Chip.startCycle (c : Chip) : Chip := { c with gscnt := 0, gsa := c.gsl }

/-- One more counted GSCLK edge: `min(4096, GSCNT + 1)` (60_exceptions.md R234). -/
def Chip.countEdge (c : Chip) : Chip := { c with gscnt := min 4096 (c.gscnt + 1) }

/-- A GSCLK HIGH counts from LOW while BLANK is LOW; from an unknown level it may or may not count (60_exceptions.md R234).
With BLANK at no known level GSCNT is any value (log 12). -/
def Chip.greyEdge (lv : RoleFile LineLevel) (n : Nat) (c : Chip) : Chip :=
  match lv.blank with
  | .high => c
  | .unknown => { c with gscnt := (Config.freeGscnt n).val }
  | .released => { c with gscnt := (Config.freeGscnt n).val }
  | .low =>
    match lv.gsclk with
    | .low => c.countEdge
    | .high => c
    | .unknown => if Config.freeEdgeCounts n then c.countEdge else c
    | .released => if Config.freeEdgeCounts n then c.countEdge else c

/-- What the chip does with an event that reaches its line, `lv` being the levels before it and `n` the index of the free
values it may take (60_exceptions.md R230 to R236). -/
def Chip.observe (lv : RoleFile LineLevel) (n : Nat) (e : Event) (c : Chip) : Chip :=
  match e with
  | .configure _ => c
  | .write _ .low => c
  | .write .blank .high => c.startCycle
  | .write .prog .high => c
  | .write .latch .high => c.commit lv n
  | .write .gsclk .high => c.greyEdge lv n
  | .write .serial .high => c
  | .write .clk .high => c.shift lv n
  | .teardown => Chip.free n

/-- A CLK HIGH, the event that shifts the chip's register (60_exceptions.md R231). -/
def isShift (e : Event) : Bool := e == .write .clk .high

/-- The events of the current command that have been emitted: the last IDX of TRACE (10_state.md R28, R30). -/
def State.emitted (s : State) : List Event := s.trace.drop (s.trace.length - s.idx.toNat)

/-- The current command stands between its first and its last shift (60_exceptions.md R233; log 10). -/
def State.inFrame (s : State) : Bool := s.emitted.any isShift && s.queue.any isShift

/-- A command that ends inside its frame leaves SR at any value (60_exceptions.md R233). -/
def loseFrame (s : State) : State :=
  if s.inFrame then
    { s with chip := { s.chip with sr := Config.freeSr s.draws }, draws := s.draws + 1 }
  else s

/-! ## Fault entry, cancel, block reset -/

/-- Fault entry, `raise X(info)` (60_exceptions.md R200): the fault record is written, the sequencer emptied, PHASE is
FAULT. `cmd`, `idx` and `role` are what the raising point records. There is no return from it (R212). -/
def raiseFault (c : Cause) (cmd : Word) (idx : BitVec 14) (role : Option Role) (s : State) : State :=
  { loseFrame s with
    fault := ⟨causeCode c, cmd, idx, roleCodeOf role⟩
    queue := []
    cur := none
    idx := 0#14
    phase := .fault }

/-- A fault raised at acceptance records the presented word, index 0 and no role (60_exceptions.md R200, R202 to R206). -/
def raiseAtAcceptance (c : Cause) (w : Word) (s : State) : State := raiseFault c w 0#14 none s

/-- A fault raised at emission records CUR (0 if none), IDX and the role of the event (60_exceptions.md R200). -/
def raiseAtEmission (c : Cause) (e : Event) (s : State) : State :=
  raiseFault c (s.cur.getD 0#64) s.idx (eventRole e) s

/-- The cancel step (40_sequencer.md R107). -/
def cancelStep (s : State) : State :=
  { loseFrame s with queue := [], cur := none, idx := 0#14, phase := .cancelled }

/-- Block reset: every element at its reset value, the PINMAP bound, the lines at a new PRELEVEL and the chip at any value
(70_reset_and_hazards.md R250; logs 4, 8). The host's inputs, the answers of the Pin Interface and CONFIG_ORDER go on. -/
def construct (pins : RoleFile Nat) (s : State) : State :=
  { State.reset with
    chip := Chip.free s.draws
    pins := pins
    configOrder := s.configOrder
    inputs := s.inputs
    answers := s.answers
    laterAnswer := s.laterAnswer
    draws := s.draws + 1
    preDraw := s.draws }

/-- The PINMAP a construction binds, if it is one it accepts (70_reset_and_hazards.md R251). -/
def acceptedPins (req : RoleFile (Option Nat)) : Option (RoleFile Nat) :=
  match boundPins req with
  | some p => if pinsDistinct p then some p else none
  | none => none

/-! ## Emission -/

/-- LEVEL after a successful event (40_sequencer.md R104). -/
def levelsAfter (e : Event) (lv : RoleFile LineLevel) : RoleFile LineLevel :=
  match e with
  | .configure _ => lv
  | .write r l => lv.set r (lineLevelOf l)
  | .teardown => RoleFile.all .released

/-- CFG after a successful event (40_sequencer.md R104). -/
def cfgAfter (e : Event) (cfg : RoleFile Bool) : RoleFile Bool :=
  match e with
  | .configure r => cfg.set r true
  | .write _ _ => cfg
  | .teardown => RoleFile.all false

/-- LEVEL after a failed event: the line it addressed is unknown (40_sequencer.md R105). -/
def levelsAfterFail (e : Event) (lv : RoleFile LineLevel) : RoleFile LineLevel :=
  match e with
  | .configure r => lv.set r .unknown
  | .write r _ => lv.set r .unknown
  | .teardown => RoleFile.all .unknown

/-- The cause of a failed event (40_sequencer.md R105). -/
def failCause : Event → Cause
  | .configure _ => .pinConfig
  | .write _ _ => .pinWrite
  | .teardown => .pinTeardown

/-- A `Write(r, lv)` while `CFG[r] = 0` (40_sequencer.md R104). -/
def writesUnconfigured (cfg : RoleFile Bool) : Event → Bool
  | .configure _ => false
  | .write r _ => !cfg.get r
  | .teardown => false

/-- The answer the Pin Interface gives to the next call. -/
def State.nextAnswer (s : State) : Answer := s.answers.headD s.laterAnswer

/-- One call has been answered. -/
def State.dropAnswer (s : State) : State := { s with answers := s.answers.tail }

/-- Completion of a command (40_sequencer.md R106). -/
def complete (s : State) : State := { s with cur := none, idx := 0#14 }

/-- The head event `e` answered OK, `rest` being the events left (40_sequencer.md R104). -/
def emitOk (e : Event) (rest : List Event) (s : State) : State :=
  let t : State :=
    { s with
      cfg := cfgAfter e s.cfg
      level := levelsAfter e s.level
      trace := s.trace ++ [e]
      glc := greyLifeAfter s.cur e rest s.glc
      dlc := dotLifeAfter s.cur e s.dlc
      chip := s.chip.observe s.level s.draws e
      draws := s.draws + 1
      queue := rest
      idx := s.idx + 1 }
  if rest.isEmpty then complete t else t

/-- What a failed call may have done to the chip: all it would have, or nothing (60_exceptions.md R211; log 11). -/
def chipAfterFail (e : Event) (s : State) : Chip :=
  if Config.freeFailedCallActs s.draws then s.chip.observe s.level s.draws e else s.chip

/-- The head event `e` answered FAIL (40_sequencer.md R105). -/
def emitFail (e : Event) (s : State) : State :=
  raiseAtEmission (failCause e) e
    { s with level := levelsAfterFail e s.level, chip := chipAfterFail e s, draws := s.draws + 1 }

/-- One step of the sequencer (40_sequencer.md R104, R105). The unconfigured-role check comes before the call is made. -/
def emit (s : State) : State :=
  match s.queue with
  | [] => s
  | e :: rest =>
    if writesUnconfigured s.cfg e then raiseAtEmission .notInitialised e s
    else
      match s.nextAnswer with
      | .ok => emitOk e rest s.dropAnswer
      | .fail => emitFail e s.dropAnswer

/-! ## Acceptance -/

/-- What the phase says of a command: accept it, raise a cause, or (in FAULT) nothing happens. -/
inductive Admission where
  | accept
  | refuse (c : Cause)
  | nothing
deriving DecidableEq, Repr

/-- The UNINIT column of the admission table (40_sequencer.md R103). -/
def admitUninit : Instr → Admission
  | .init => .accept
  | .reset => .refuse .notInitialised
  | .setdot _ _ => .refuse .notInitialised
  | .setgrey _ _ => .refuse .notInitialised
  | .wrdot => .refuse .notInitialised
  | .wrgrey => .refuse .notInitialised
  | .pulse => .refuse .notInitialised
  | .blank _ => .refuse .notInitialised
  | .cleanup => .refuse .notInitialised

/-- The CANCELLED column of the admission table (40_sequencer.md R103). -/
def admitCancelled : Instr → Admission
  | .blank .high => .accept
  | .cleanup => .accept
  | .blank .low => .refuse .cancelledPhase
  | .init => .refuse .cancelledPhase
  | .reset => .refuse .cancelledPhase
  | .setdot _ _ => .refuse .cancelledPhase
  | .setgrey _ _ => .refuse .cancelledPhase
  | .wrdot => .refuse .cancelledPhase
  | .wrgrey => .refuse .cancelledPhase
  | .pulse => .refuse .cancelledPhase

/-- Phase admission (40_sequencer.md R103). FAULT has no column: nothing is accepted there and nothing raised. -/
def admission (p : Phase) (i : Instr) : Admission :=
  match p with
  | .uninit => admitUninit i
  | .ready => .accept
  | .cancelled => admitCancelled i
  | .released => .refuse .releasedPhase
  | .fault => .nothing

/-- The sequencer takes a command's events (40_sequencer.md R101). -/
def loadEvents (i : Instr) (es : List Event) (s : State) : State :=
  { s with queue := es, idx := 0#14, cur := if es.isEmpty then none else some (encode i) }

/-- Acceptance of a decoded command with register effect `post` and events `es` (40_sequencer.md R101). The presented word
is `encode i` (log 6). -/
def accept (i : Instr) (post : State → State) (es : List Event) (s : State) : Host.Outcome State Fault Refusal :=
  match admission s.phase i with
  | .accept => .next (loadEvents i es (post s))
  | .refuse c => .next (raiseAtAcceptance c (encode i) s)
  | .nothing => .next s

/-! ## The inputs of a step -/

/-- Nothing presented, no cancel, no block reset (40_sequencer.md R110). -/
def HostInput.quiet : HostInput := ⟨none, false, false, 0#64⟩

/-- A command presented (40_sequencer.md R100). -/
def HostInput.present (w : Word) : HostInput := ⟨none, false, true, w⟩

/-- The cancel input asserted (40_sequencer.md R107). -/
def HostInput.cancelled : HostInput := ⟨none, true, false, 0#64⟩

/-- What this step samples: the next input, or nothing when the host has no more (log 1). -/
def State.sampled (s : State) : HostInput := s.inputs.headD HostInput.quiet

/-- The sample of this step has been taken. -/
def State.dropInput (s : State) : State := { s with inputs := s.inputs.tail }

end Sys2Proof.Machine
end

