-- ==== Sys2Proof/Machine/ChannelValues.lean ====
section
/-!
DEFINITION. SETDOT and SETGREY: pure register writes, no events (42_channel_values.md R140, R141).
-/

namespace Sys2Proof.Machine

/-- `post(SETDOT, S)` (42_channel_values.md R140). -/
def postSetdot (ch val : Int) (s : State) : State :=
  { s with dot := s.dot.set (slotOf ch).val (dotValue val), dlc := .valuesStaged }

/-- SETDOT (42_channel_values.md R140). -/
def execSetdot (ch val : Int) (s : State) : Host.Outcome State Fault Refusal :=
  accept (.setdot ch val) (postSetdot ch val) [] s

/-- `post(SETGREY, S)` (42_channel_values.md R141; for GLC see log 15). -/
def postSetgrey (ch val : Int) (s : State) : State :=
  { s with grey := s.grey.set (slotOf ch).val (greyValue val), glc := .valuesStaged }

/-- SETGREY (42_channel_values.md R141). -/
def execSetgrey (ch val : Int) (s : State) : Host.Outcome State Fault Refusal :=
  accept (.setgrey ch val) (postSetgrey ch val) [] s

end Sys2Proof.Machine
end

