-- ==== Sys2Proof/Machine/Cleanup.lean ====
section
/-!
DEFINITION. CLEANUP (45_cleanup.md R190, R191).
-/

namespace Sys2Proof.Machine

/-- `post(CLEANUP, S)` (45_cleanup.md R190). -/
def postCleanup (s : State) : State := { s with phase := .released }

/-- CLEANUP: one teardown event (45_cleanup.md R190). -/
def execCleanup (s : State) : Host.Outcome State Fault Refusal :=
  accept .cleanup postCleanup [.teardown] s

end Sys2Proof.Machine
end

