-- ==== Sys2Proof/Machine/SerialWrites.lean ====
section
/-!
DEFINITION. WRDOT and WRGREY, the serial shift-register sequencer (43_serial_writes.md R150, R151).
-/

namespace Sys2Proof.Machine

/-- `WRDOT_EVENTS(D)`: PROG HIGH, the values at 6 bits, a LATCH pulse (43_serial_writes.md R150). -/
def wrdotEvents (d : List Nat) : List Event :=
  [.write .prog .high] ++ shiftOut d 6 ++ pulseOf .latch

/-- `post(WRDOT, S)`: only the ghost DLC (43_serial_writes.md R150). -/
def postWrdot (s : State) : State := { s with dlc := .shiftedNotLatched }

/-- WRDOT (43_serial_writes.md R150). -/
def execWrdot (s : State) : Host.Outcome State Fault Refusal :=
  accept .wrdot postWrdot (wrdotEvents (slotValues s.dot)) s

/-- `WRGREY_EVENTS(G)`: PROG LOW, the values at 12 bits, a LATCH pulse (43_serial_writes.md R151). -/
def wrgreyEvents (g : List Nat) : List Event :=
  [.write .prog .low] ++ shiftOut g 12 ++ pulseOf .latch

/-- `post(WRGREY, S)`: only the ghost GLC (43_serial_writes.md R151; log 15). -/
def postWrgrey (s : State) : State := { s with glc := .shiftedNotLatched }

/-- WRGREY (43_serial_writes.md R151). -/
def execWrgrey (s : State) : Host.Outcome State Fault Refusal :=
  accept .wrgrey postWrgrey (wrgreyEvents (slotValues s.grey)) s

end Sys2Proof.Machine
end

