-- ==== Sys2Proof/Machine/InitReset.lean ====
section
/-!
DEFINITION. INIT and RESET (41_init_reset.md R120 to R125).
-/

namespace Sys2Proof.Machine

/-- PREAMBLE: BLANK HIGH, PROG LOW, LATCH LOW, CLK LOW, SERIAL LOW (41_init_reset.md R121). -/
def preamble : List Event :=
  [.write .blank .high, .write .prog .low, .write .latch .low, .write .clk .low, .write .serial .low]

/-- The dot-correction values RESET shifts: `[0x3F] * 16` (41_init_reset.md R121). -/
def defaultDotValues : List Nat := List.replicate 16 0x3F

/-- The grayscale values RESET shifts: `[0xFFF] * 16` (41_init_reset.md R121). -/
def defaultGreyValues : List Nat := List.replicate 16 0xFFF

/-- `post(RESET, S)` (41_init_reset.md R121; for the ghosts see log 15). -/
def postReset (s : State) : State :=
  { s with
    dot := Vector.replicate 16 0x3F#6
    grey := Vector.replicate 16 0xFFF#12
    first := false
    glc := .idle
    dlc := .idle }

/-- `events(RESET, S)`, which depends on FIRST alone (41_init_reset.md R121, R122). -/
def resetEvents (first : Bool) : List Event :=
  preamble ++ wrdotEvents defaultDotValues ++ wrgreyEvents defaultGreyValues ++ oneShot first

/-- RESET (41_init_reset.md R121). -/
def execReset (s : State) : Host.Outcome State Fault Refusal :=
  accept .reset postReset (resetEvents s.first) s

/-- `post(INIT, S)`: PHASE READY, then RESET's (41_init_reset.md R120). -/
def postInit (s : State) : State := postReset { s with phase := .ready }

/-- `events(INIT, S)`: the configure calls in CONFIG_ORDER, then RESET's events (41_init_reset.md R120). -/
def initEvents (order : List Role) (first : Bool) : List Event :=
  order.map Event.configure ++ resetEvents first

/-- INIT (41_init_reset.md R120). -/
def execInit (s : State) : Host.Outcome State Fault Refusal :=
  accept .init postInit (initEvents s.configOrder s.first) s

end Sys2Proof.Machine
end

