-- ==== Sys2Proof/Machine/PwmBlank.lean ====
section
/-!
DEFINITION. PULSE, the PWM cycle timer, and BLANK, the output gate (44_pwm_blank.md R170, R173).
-/

namespace Sys2Proof.Machine

/-- GS_PULSES: 4096 GSCLK pulses a PULSE (00_scope.md R6). -/
def gsPulses : Nat := 4096

/-- `events(PULSE, S)`: BLANK HIGH, BLANK LOW, then the pulses (44_pwm_blank.md R170). -/
def pulseEvents : List Event := pulseOf .blank ++ repeatEvents gsPulses (pulseOf .gsclk)

/-- PULSE: no register is written (44_pwm_blank.md R170). -/
def execPulse (s : State) : Host.Outcome State Fault Refusal :=
  accept .pulse id pulseEvents s

/-- BLANK: one event, no register is written (44_pwm_blank.md R173). -/
def execBlank (lvl : Level) (s : State) : Host.Outcome State Fault Refusal :=
  accept (.blank lvl) id [.write .blank lvl] s

end Sys2Proof.Machine
end

