-- ==== Sys2Proof/Machine/Dispatch.lean ====
section
/-! DEFINITION. The meaning of each command, one arm a constructor (30_encoding.md R71). -/

namespace Sys2Proof.Machine

/-- Acceptance of a decoded command (40_sequencer.md R101). -/
def exec (i : Instr) (s : State) : Host.Outcome State Fault Refusal :=
  match i with
  | .init => Sys2Proof.Machine.execInit s
  | .reset => Sys2Proof.Machine.execReset s
  | .setdot ch val => Sys2Proof.Machine.execSetdot ch val s
  | .setgrey ch val => Sys2Proof.Machine.execSetgrey ch val s
  | .wrdot => Sys2Proof.Machine.execWrdot s
  | .wrgrey => Sys2Proof.Machine.execWrgrey s
  | .pulse => Sys2Proof.Machine.execPulse s
  | .blank lvl => Sys2Proof.Machine.execBlank lvl s
  | .cleanup => Sys2Proof.Machine.execCleanup s

end Sys2Proof.Machine
end

