-- ==== Sys2Proof/Machine/Sequencer.lean ====
section
/-!
DEFINITION. The step as 40_sequencer.md R100 writes it, on the input it samples: block reset, FAULT, cancel, a presented
command, emission, idle.
-/

namespace Sys2Proof.Machine

/-- Acceptance of a presented word (40_sequencer.md R101, R102): illegal words first, then the command. -/
def acceptWord (w : Word) (s : State) : Host.Outcome State Fault Refusal :=
  match decode w with
  | .illegal _ => .next (raiseAtAcceptance .illegalCmd w s)
  | .cmd i => exec i s

/-- A word presented on the command port (40_sequencer.md R100): busy before decoding (R102). -/
def presentWord (w : Word) (s : State) : Host.Outcome State Fault Refusal :=
  if s.busy then .next (raiseAtAcceptance .overrun w s) else acceptWord w s

/-- The block-reset input (70_reset_and_hazards.md R250, R251). -/
def resetBlock (req : RoleFile (Option Nat)) (s : State) : Host.Outcome State Fault Refusal :=
  match acceptedPins req with
  | some p => .next (construct p s)
  | none => .refused .constructionRefused

/-- `step(S, cmd_valid, cmd, cancel, ρ)` (40_sequencer.md R100), the block-reset input first (log 4). -/
def stepOn (h : HostInput) (s : State) : Host.Outcome State Fault Refusal :=
  match h.rst with
  | some req => resetBlock req s
  | none =>
    if s.phase = .fault then .next s
    else if h.cancel = true ∧ s.phase = .ready then .next (cancelStep s)
    else if h.cmdValid then presentWord h.cmd s
    else if s.busy then .next (emit s)
    else .next s

/-- A word put where the next step samples its command: it replaces what the next input presents, with no cancel and no
block reset beside it (40_sequencer.md R100; log 19). -/
def presentNext (w : Word) (s : State) : State :=
  { s with inputs := HostInput.present w :: s.inputs.tail }

end Sys2Proof.Machine
end

