-- ==== Sys2Proof/Machine/Step.lean ====
section
/-! DEFINITION. One step: sample the inputs, then do what 40_sequencer.md R100 says. -/

namespace Sys2Proof.Machine

/-- One step of the block (40_sequencer.md R100). -/
def step (s : State) : Host.Outcome State Fault Refusal := stepOn s.sampled s.dropInput

/-- `s` with an instruction's word presented at the next step (log 19). -/
def State.withFetchWord (s : State) (nbits w : Nat) : State :=
  presentNext (BitVec.ofNat 64 (w % 2 ^ nbits)) s

end Sys2Proof.Machine
end

