-- ==== Sys2Proof/Machine/Asm.lean ====
section
/-!
DEFINITION. The assembler's syntax (30_encoding.md R81) and the pseudo-instructions (R82), as functions from a line's
characters to commands. No step reads this file.
-/

namespace Sys2Proof.Machine

/-! ## Pseudo-instructions -/

/-- `REFRESH`: WRGREY, PULSE (30_encoding.md R82). -/
def pseudoRefresh : List Instr := [.wrgrey, .pulse]

/-- `SHUTDOWN`: BLANK 1, CLEANUP (30_encoding.md R82). -/
def pseudoShutdown : List Instr := [.blank .high, .cleanup]

/-- `SETALLDOT v`: SETDOT 0, v to SETDOT 15, v (30_encoding.md R82). -/
def pseudoSetAllDot (v : Int) : List Instr := (List.range 16).map fun c => .setdot (Int.ofNat c) v

/-- `SETALLGREY v`: SETGREY 0, v to SETGREY 15, v (30_encoding.md R82). -/
def pseudoSetAllGrey (v : Int) : List Instr := (List.range 16).map fun c => .setgrey (Int.ofNat c) v

/-! ## Characters and numbers -/

/-- Blank space inside a line (log 16). -/
def isBlankChar (c : Char) : Bool := c == ' ' || c == '\t'

/-- A line without the blanks at its two ends. -/
def trimBlanks (cs : List Char) : List Char :=
  ((cs.dropWhile isBlankChar).reverse.dropWhile isBlankChar).reverse

/-- `;` starts a comment (30_encoding.md R81). -/
def stripComment (cs : List Char) : List Char := cs.takeWhile (· != ';')

/-- The operands of a line, parted by commas. -/
def splitCommas : List Char → List (List Char)
  | [] => [[]]
  | c :: rest =>
    if c == ',' then [] :: splitCommas rest
    else
      match splitCommas rest with
      | [] => [[c]]
      | w :: ws => (c :: w) :: ws

/-- The value of a digit in base 10 or 16. -/
def digitValue (base : Nat) (c : Char) : Option Nat :=
  let n := c.toNat
  let v :=
    if 48 ≤ n ∧ n ≤ 57 then some (n - 48)
    else if 97 ≤ n ∧ n ≤ 102 then some (n - 87)
    else if 65 ≤ n ∧ n ≤ 70 then some (n - 55)
    else none
  v.filter (· < base)

/-- The value of a string of digits after the value `acc`. -/
def digitsValue (base : Nat) : Nat → List Char → Option Nat
  | acc, [] => some acc
  | acc, c :: rest =>
    match digitValue base c with
    | some d => digitsValue base (acc * base + d) rest
    | none => none

/-- A non-empty string of digits. -/
def parseDigits (base : Nat) (cs : List Char) : Option Nat :=
  if cs.isEmpty then none else digitsValue base 0 cs

/-- A natural number, decimal or `0x` hexadecimal (30_encoding.md R81). -/
def parseNat (cs : List Char) : Option Nat :=
  if cs.take 2 = ['0', 'x'] then parseDigits 16 (cs.drop 2) else parseDigits 10 cs

/-- An integer: an optional leading `-` (30_encoding.md R81). -/
def parseInt (cs : List Char) : Option Int :=
  if cs.head? = some '-' then (parseNat cs.tail).map fun n => -(Int.ofNat n)
  else (parseNat cs).map Int.ofNat

/-- The level operand of BLANK: `0`, `1`, `LOW`, `HIGH`, `false` or `true` (30_encoding.md R81). -/
def parseLevel (cs : List Char) : Option Level :=
  if cs = ['0'] ∨ cs = ['L', 'O', 'W'] ∨ cs = ['f', 'a', 'l', 's', 'e'] then some .low
  else if cs = ['1'] ∨ cs = ['H', 'I', 'G', 'H'] ∨ cs = ['t', 'r', 'u', 'e'] then some .high
  else none

/-! ## Lines -/

/-- The assembler refuses operands the port cannot carry (30_encoding.md R81). -/
def fits (is : List Instr) : Option (List Instr) := if is.all Instr.wellFormed then some is else none

/-- A line with no operand (30_encoding.md R81, R82). -/
def assembleBare (m : List Char) : Option (List Instr) :=
  if m = ['I', 'N', 'I', 'T'] then some [.init]
  else if m = ['R', 'E', 'S', 'E', 'T'] then some [.reset]
  else if m = ['W', 'R', 'D', 'O', 'T'] then some [.wrdot]
  else if m = ['W', 'R', 'G', 'R', 'E', 'Y'] then some [.wrgrey]
  else if m = ['P', 'U', 'L', 'S', 'E'] then some [.pulse]
  else if m = ['C', 'L', 'E', 'A', 'N', 'U', 'P'] then some [.cleanup]
  else if m = ['R', 'E', 'F', 'R', 'E', 'S', 'H'] then some pseudoRefresh
  else if m = ['S', 'H', 'U', 'T', 'D', 'O', 'W', 'N'] then some pseudoShutdown
  else none

/-- A line with one operand (30_encoding.md R81, R82). -/
def assembleOne (m a : List Char) : Option (List Instr) :=
  if m = ['B', 'L', 'A', 'N', 'K'] then (parseLevel a).map fun l => [.blank l]
  else if m = ['S', 'E', 'T', 'A', 'L', 'L', 'D', 'O', 'T'] then (parseInt a).bind fun v => fits (pseudoSetAllDot v)
  else if m = ['S', 'E', 'T', 'A', 'L', 'L', 'G', 'R', 'E', 'Y'] then
    (parseInt a).bind fun v => fits (pseudoSetAllGrey v)
  else none

/-- A line with two operands (30_encoding.md R81). -/
def assembleTwo (m a b : List Char) : Option (List Instr) :=
  match parseInt a, parseInt b with
  | some x, some y =>
    if m = ['S', 'E', 'T', 'D', 'O', 'T'] then fits [.setdot x y]
    else if m = ['S', 'E', 'T', 'G', 'R', 'E', 'Y'] then fits [.setgrey x y]
    else none
  | _, _ => none

/-- The commands of one line; none where the assembler refuses it (30_encoding.md R81, R82). An empty line is no command
(log 16). -/
def assembleLine (line : List Char) : Option (List Instr) :=
  let body := trimBlanks (stripComment line)
  let m := body.takeWhile (!isBlankChar ·)
  let rest := trimBlanks (body.drop m.length)
  if body.isEmpty then some []
  else if rest.isEmpty then assembleBare m
  else
    match (splitCommas rest).map trimBlanks with
    | [a] => assembleOne m a
    | [a, b] => assembleTwo m a b
    | _ => none

/-- The words of a program, one line after another (30_encoding.md R81). -/
def assembleProgram : List (List Char) → Option (List Word)
  | [] => some []
  | line :: rest =>
    match assembleLine line, assembleProgram rest with
    | some is, some ws => some (is.map encode ++ ws)
    | _, _ => none

end Sys2Proof.Machine
end

