-- ==== Sys2Proof/Safety.lean ====
section
/-!
DEFINITION. What counts as a good run and the terms statements use (60_exceptions.md R221): runs, quiet hosts, answers
that are all OK, the order of transitions an event list keeps (70_reset_and_hazards.md R256), and the invariant of the
reachable states.
-/

namespace Sys2Proof.Machine

/-! ## Runs -/

/-- `k` steps of the machine. -/
def runSteps (k : Nat) (s : State) : Host.Outcome State Fault Refusal := Host.Core.run Sys2Proof.core k s

/-- One input presents no command, asserts no cancel and no block reset. -/
def HostInput.isQuiet (h : HostInput) : Bool := h.rst.isNone && !h.cancel && !h.cmdValid

/-- The host does nothing more. -/
def State.hostQuiet (s : State) : Bool := s.inputs.all HostInput.isQuiet

/-- Every answer of the Pin Interface is OK, the usual premise (60_exceptions.md R221). -/
def State.answersOk (s : State) : Bool := s.answers.all (· == .ok) && s.laterAnswer == .ok

/-- The run has ended: the host presents nothing more and the block is not busy or is in FAULT (60_exceptions.md R221).
DESIGN CHOICE: a block reset still to come keeps the run open, where R221 names commands and cancels alone (log 26). -/
def State.runEnded (s : State) : Bool := s.hostQuiet && (!s.busy || s.phase == .fault)

/-- The run is good (60_exceptions.md R221). -/
def State.runGood (s : State) : Bool := s.phase != .fault

/-- The state of an outcome that has one. -/
def Outcome.nextState : Host.Outcome State Fault Refusal → Option State
  | .next s => some s
  | .fault _ => none
  | .refused _ => none

/-! ## Terms of the statements -/

/-- `sext_n(v)`: the `n`-bit number `v` read as two's complement (00_scope.md R8). -/
def signExtend (n v : Nat) : Int := if v < 2 ^ (n - 1) then (v : Int) else (v : Int) - (2 : Int) ^ n

/-- The block emits `e` in this step if the unconfigured-role check and the Pin Interface let it, `rest` being the events
left: it is busy, not in FAULT, and the host does nothing the step would take first (40_sequencer.md R100). -/
def State.emitting (s : State) (e : Event) (rest : List Event) : Prop :=
  s.queue = e :: rest ∧ s.phase ≠ .fault ∧ s.sampled.rst = none ∧
    ¬(s.sampled.cancel = true ∧ s.phase = .ready) ∧ s.sampled.cmdValid = false

/-- The block samples the word `w` on the command port and takes nothing before it (40_sequencer.md R100). -/
def State.presented (s : State) (w : Word) : Prop :=
  s.phase ≠ .fault ∧ s.sampled.rst = none ∧ ¬(s.sampled.cancel = true ∧ s.phase = .ready) ∧
    s.sampled.cmdValid = true ∧ s.sampled.cmd = w

/-- At most SR differs, the register a broken frame leaves at any value (60_exceptions.md R233). -/
def Chip.SameButSr (a b : Chip) : Prop := a.dcr = b.dcr ∧ a.gsl = b.gsl ∧ a.gsa = b.gsa ∧ a.gscnt = b.gscnt

/-- `t` is `s` after an acceptance fault of cause code `c` on the word `w` at an idle block (60_exceptions.md R200). -/
def faultedAtAcceptance (c : BitVec 4) (w : Word) (s : State) : State :=
  { s with fault := ⟨c, w, 0#14, 7#3⟩, queue := [], cur := none, idx := 0#14, phase := .fault }

/-- The triples of a shift from index `o`: SERIAL at the level of `bit k`, CLK HIGH, CLK LOW, for `k < n` (40_sequencer.md
R109). -/
def ShiftTriples (q : List Event) (o n : Nat) (bit : Nat → Bool) : Prop :=
  ∀ k, k < n →
    q[o + 3 * k]? = some (.write .serial (if bit k then .high else .low)) ∧
      q[o + 3 * k + 1]? = some (.write .clk .high) ∧ q[o + 3 * k + 2]? = some (.write .clk .low)

/-- Events of a command, the table of 70_reset_and_hazards.md R263; `first` is FIRST at acceptance. -/
def eventCount (first : Bool) : Instr → Nat
  | .init => if first then 883 else 881
  | .reset => if first then 877 else 875
  | .setdot _ _ => 0
  | .setgrey _ _ => 0
  | .wrdot => 291
  | .wrgrey => 579
  | .pulse => 8194
  | .blank _ => 1
  | .cleanup => 1

/-- CLK HIGH among them (70_reset_and_hazards.md R263). -/
def clkHighCount (first : Bool) : Instr → Nat
  | .init => if first then 289 else 288
  | .reset => if first then 289 else 288
  | .setdot _ _ => 0
  | .setgrey _ _ => 0
  | .wrdot => 96
  | .wrgrey => 192
  | .pulse => 0
  | .blank _ => 0
  | .cleanup => 0

/-- GSCLK HIGH among them (70_reset_and_hazards.md R263). -/
def gsclkHighCount : Instr → Nat
  | .init => 0
  | .reset => 0
  | .setdot _ _ => 0
  | .setgrey _ _ => 0
  | .wrdot => 0
  | .wrgrey => 0
  | .pulse => 4096
  | .blank _ => 0
  | .cleanup => 0

/-- The event index table of RESET from offset `o` (41_init_reset.md R123). -/
def ResetTable (q : List Event) (o : Nat) (first : Bool) : Prop :=
  q[o]? = some (.write .blank .high) ∧ q[o + 1]? = some (.write .prog .low) ∧
    q[o + 2]? = some (.write .latch .low) ∧ q[o + 3]? = some (.write .clk .low) ∧
    q[o + 4]? = some (.write .serial .low) ∧ q[o + 5]? = some (.write .prog .high) ∧
    ShiftTriples q (o + 6) 96 (fun _ => true) ∧
    q[o + 294]? = some (.write .latch .high) ∧ q[o + 295]? = some (.write .latch .low) ∧
    q[o + 296]? = some (.write .prog .low) ∧
    ShiftTriples q (o + 297) 192 (fun _ => true) ∧
    q[o + 873]? = some (.write .latch .high) ∧ q[o + 874]? = some (.write .latch .low) ∧
    (first = true →
      q.length = o + 877 ∧ q[o + 875]? = some (.write .clk .high) ∧ q[o + 876]? = some (.write .clk .low)) ∧
    (first = false → q.length = o + 875)

/-- The six roles on six distinct lines (10_state.md R24; 70_reset_and_hazards.md R251). -/
def BindsAllDistinct (req : RoleFile (Option Nat)) (line : Role → Nat) : Prop :=
  (∀ r, req.get r = some (line r)) ∧ ∀ r q, line r = line q → r = q

/-! ## The order of transitions -/

/-- A role the block drives at a known level. -/
def LineLevel.driven : LineLevel → Bool
  | .low => true
  | .high => true
  | .unknown => false
  | .released => false

/-- An event a READY block may emit at these configured bits and levels (70_reset_and_hazards.md R256; 60_exceptions.md
R231, R232, R234): no teardown, which CLEANUP makes in RELEASED (45_cleanup.md R190); a write only to a configured role;
CLK HIGH only from CLK LOW with SERIAL driven; LATCH HIGH only from LATCH LOW with PROG driven; GSCLK HIGH only with BLANK
LOW and GSCLK not HIGH. -/
def eventAllowed (cfg : RoleFile Bool) (lv : RoleFile LineLevel) : Event → Bool
  | .configure _ => true
  | .teardown => false
  | .write r .low => cfg.get r
  | .write .blank .high => cfg.blank
  | .write .prog .high => cfg.prog
  | .write .serial .high => cfg.serial
  | .write .clk .high => cfg.clk && lv.clk == .low && lv.serial.driven
  | .write .latch .high => cfg.latch && lv.latch == .low && lv.prog.driven
  | .write .gsclk .high => cfg.gsclk && lv.blank == .low && lv.gsclk != .high

/-- Every event of a list is allowed where it comes to be emitted. -/
def queueAllowed (cfg : RoleFile Bool) (lv : RoleFile LineLevel) : List Event → Bool
  | [] => true
  | e :: rest => eventAllowed cfg lv e && queueAllowed (cfgAfter e cfg) (levelsAfter e lv) rest

/-- CFG after a list of successful events (40_sequencer.md R104). -/
def cfgAfterAll (es : List Event) (cfg : RoleFile Bool) : RoleFile Bool :=
  es.foldl (fun c e => cfgAfter e c) cfg

/-- LEVEL after a list of successful events (40_sequencer.md R104). -/
def levelsAfterAll (es : List Event) (lv : RoleFile LineLevel) : RoleFile LineLevel :=
  es.foldl (fun l e => levelsAfter e l) lv

/-- The levels between the commands of a READY block: all six roles configured, CLK and LATCH LOW, BLANK, PROG and SERIAL
driven, GSCLK LOW or not yet written (41_init_reset.md R121; 43_serial_writes.md R155; 70_reset_and_hazards.md R259). -/
def settled (cfg : RoleFile Bool) (lv : RoleFile LineLevel) : Bool :=
  cfg == RoleFile.all true && lv.clk == .low && lv.latch == .low && lv.blank.driven && lv.prog.driven &&
    lv.serial.driven && (lv.gsclk == .low || lv.gsclk == .unknown)

/-! ## The invariant of the reachable states -/

/-- The record of a block that has taken no fault (10_state.md R31). -/
def clearRecord : FaultRecord := ⟨0#4, 0#64, 0#14, 7#3⟩

/-- What holds of every reachable state. `Obligations.StepKeepsInvariant` states that every step keeps it. -/
structure State.Inv (s : State) : Prop where
  /-- CONFIG_ORDER is an order of the six roles (00_scope.md R7). -/
  configOrder : s.configOrder.length = 6 ∧ ∀ r, r ∈ s.configOrder
  /-- The six lines are distinct (10_state.md R24). -/
  pins : pinsDistinct s.pins = true
  /-- CUR is none exactly when the block is not busy (40_sequencer.md R101, R106). -/
  cur : s.cur = none ↔ s.queue = []
  /-- IDX is 0 when the block is not busy (10_state.md R36). -/
  idle : s.queue = [] → s.idx = 0#14
  /-- No list has more than 8194 events, so IDX cannot wrap (10_state.md R28, R36). -/
  idx : s.idx.toNat + s.queue.length ≤ 8194
  /-- The events of the current command that were emitted stand in TRACE (10_state.md R30). -/
  emitted : s.idx.toNat ≤ s.trace.length
  /-- Before a fault the record is clear (10_state.md R31). -/
  recordClear : s.phase ≠ .fault → s.fault = clearRecord
  /-- In FAULT the record holds a cause of R201 and no unused role code, and the sequencer is empty (60_exceptions.md
  R200, R201; 30_encoding.md R89). -/
  recordKept : s.phase = .fault →
    1 ≤ s.fault.cause.toNat ∧ s.fault.cause.toNat ≤ 8 ∧ s.fault.role ≠ 6#3 ∧ s.queue = []
  /-- UNINIT is the constructed block (10_state.md section 9). -/
  uninit : s.phase = .uninit →
    s.first = true ∧ s.queue = [] ∧ s.trace = [] ∧ s.cfg = RoleFile.all false ∧ s.level = RoleFile.all .unknown ∧
      s.dot = Vector.replicate 16 0x3F#6 ∧ s.grey = Vector.replicate 16 0xFFF#12 ∧
      s.glc = .uninitialized ∧ s.dlc = .uninitialized
  /-- After the first INIT, FIRST is 0 and the lifecycles have begun (10_state.md R23, R33, R34). -/
  begun : s.phase = .ready ∨ s.phase = .cancelled ∨ s.phase = .released →
    s.first = false ∧ s.glc ≠ .uninitialized ∧ s.dlc ≠ .uninitialized
  /-- In READY the events to come keep the order of transitions and end with the lines settled (70_reset_and_hazards.md
  R256). -/
  ready : s.phase = .ready →
    queueAllowed s.cfg s.level s.queue = true ∧
      settled (cfgAfterAll s.queue s.cfg) (levelsAfterAll s.queue s.level) = true
  /-- In CANCELLED only the recovery BLANK 1 can be running (40_sequencer.md R103). -/
  cancelled : s.phase = .cancelled → s.queue = [] ∨ s.queue = [.write .blank .high]
  /-- In RELEASED only the teardown can be pending (45_cleanup.md R190, R191). -/
  released : s.phase = .released →
    s.queue = [.teardown] ∨
      (s.queue = [] ∧ s.level = RoleFile.all .released ∧ s.cfg = RoleFile.all false)
  /-- The chip's count stays in 0..4096 (60_exceptions.md R230). -/
  count : s.chip.gscnt ≤ 4096

/-- An idle READY block of the reachable states whose host presents nothing more and whose pin calls all succeed. -/
structure State.ReadyIdle (s : State) : Prop where
  inv : s.Inv
  phase : s.phase = .ready
  idle : s.queue = []
  quiet : s.hostQuiet = true
  answers : s.answersOk = true

/-! ## What the status port hides -/

/-- An event without the data bit it carries on SERIAL. -/
def maskSerial : Event → Event
  | .write .serial _ => .write .serial .low
  | .write r lv => .write r lv
  | .configure r => .configure r
  | .teardown => .teardown

/-- Two states that differ at most in the value registers and what follows from them: the data bits on SERIAL, its level,
and the chip (10_state.md R32). -/
structure State.SameButValues (s t : State) : Prop where
  first : s.first = t.first
  levels : s.level.blank = t.level.blank ∧ s.level.prog = t.level.prog ∧ s.level.latch = t.level.latch ∧
    s.level.gsclk = t.level.gsclk ∧ s.level.clk = t.level.clk
  cfg : s.cfg = t.cfg
  phase : s.phase = t.phase
  cur : s.cur = t.cur
  queue : s.queue.map maskSerial = t.queue.map maskSerial
  idx : s.idx = t.idx
  trace : s.trace.map maskSerial = t.trace.map maskSerial
  fault : s.fault = t.fault
  glc : s.glc = t.glc
  dlc : s.dlc = t.dlc
  pins : s.pins = t.pins
  configOrder : s.configOrder = t.configOrder
  inputs : s.inputs = t.inputs
  answers : s.answers = t.answers
  laterAnswer : s.laterAnswer = t.laterAnswer
  draws : s.draws = t.draws
  preDraw : s.preDraw = t.preDraw

end Sys2Proof.Machine
end

