-- ==== Sys2Proof/Certificates/Slice0/Obligations.lean ====
section
/-!
DEFINITION. The statements for the provers, file by file of the spec. Each docstring names the rule it formalises.
-/

open Sys2Proof Sys2Proof.Machine

/-! ## 30_encoding.md -/

/-- R75, R74: decoding as a total function of the 64-bit word, every legal word and every illegal one. -/
def Obligations.DecodeByFields : Prop :=
  ∀ w : Word,
    (w.toNat = 0x1 → decode w = .cmd .init) ∧
    (w.toNat = 0x2 → decode w = .cmd .reset) ∧
    (w.toNat % 65536 = 0x3 →
      decode w = .cmd (.setdot (signExtend 16 (w.toNat / 65536 % 65536)) (signExtend 32 (w.toNat / 4294967296)))) ∧
    (w.toNat % 65536 = 0x4 →
      decode w = .cmd (.setgrey (signExtend 16 (w.toNat / 65536 % 65536)) (signExtend 32 (w.toNat / 4294967296)))) ∧
    (w.toNat = 0x5 → decode w = .cmd .wrdot) ∧
    (w.toNat = 0x6 → decode w = .cmd .wrgrey) ∧
    (w.toNat = 0x7 → decode w = .cmd .pulse) ∧
    (w.toNat = 0x8 → decode w = .cmd (.blank .low)) ∧
    (w.toNat = 0x108 → decode w = .cmd (.blank .high)) ∧
    (w.toNat = 0x9 → decode w = .cmd .cleanup) ∧
    (w.toNat ∉ [0x1, 0x2, 0x5, 0x6, 0x7, 0x8, 0x108, 0x9] → w.toNat % 65536 ≠ 0x3 → w.toNat % 65536 ≠ 0x4 →
      ∃ why, decode w = .illegal why)

/-- R75, R81: decoding the word of a command the port can carry gives the command back, every operand at every value. -/
def Obligations.DecodeOfEncode : Prop :=
  ∀ i : Instr, i.wellFormed = true → decode (encode i) = .cmd i

/-- R75, R81: a legal word is the word of the command it decodes to, so no two words are one command; with this `exec`
records the presented word as `encode i` (log 6). -/
def Obligations.EncodeOfDecode : Prop :=
  ∀ (w : Word) (i : Instr), decode w = .cmd i → i.wellFormed = true ∧ encode i = w

/-- R81: `w = zext_64(op) | (lvl << 8) | (zext_16(ch) << 16) | (zext_32(val) << 32)`, as a sum. -/
def Obligations.EncodeIsFieldSum : Prop :=
  (∀ ch val : Int,
    ((encode (.setdot ch val)).toNat : Int) = 3 + 65536 * (ch % 65536) + 4294967296 * (val % 4294967296) ∧
    ((encode (.setgrey ch val)).toNat : Int) = 4 + 65536 * (ch % 65536) + 4294967296 * (val % 4294967296)) ∧
  encode .init = 0x1#64 ∧ encode .reset = 0x2#64 ∧ encode .wrdot = 0x5#64 ∧ encode .wrgrey = 0x6#64 ∧
  encode .pulse = 0x7#64 ∧ encode (.blank .low) = 0x8#64 ∧ encode (.blank .high) = 0x108#64 ∧
  encode .cleanup = 0x9#64

/-- The opening paragraph of 30_encoding.md: a decoder selects the row with `(w & mask) = match`, at most one row matches
any word, a word that matches none is illegal. -/
def Obligations.DecodeSelectsOpcodeRow : Prop :=
  (∀ (w : Word) (r q : OpcodeRow), r ∈ opcodeTable → q ∈ opcodeTable → r.selects w = true → q.selects w = true →
    r = q) ∧
  (∀ (w : Word) (i : Instr), decode w = .cmd i →
    ∃ r, r ∈ opcodeTable ∧ r.mnemonic = mnemonicOf i ∧ r.selects w = true) ∧
  (∀ (w : Word) (r : OpcodeRow), r ∈ opcodeTable → r.selects w = true →
    ∃ i, decode w = .cmd i ∧ mnemonicOf i = r.mnemonic)

/-- 30_encoding.md section 7 and 95_test_vectors.md 2.1: example words, written out. -/
def Obligations.ExampleWordsDecode : Prop :=
  decode 0x0000000A00140003#64 = .cmd (.setdot 20 10) ∧
  decode 0xFFFFFFFDFFFB0003#64 = .cmd (.setdot (-5) (-3)) ∧
  decode 0x00001388FFFF0004#64 = .cmd (.setgrey (-1) 5000) ∧
  decode 0x800000007FFF0004#64 = .cmd (.setgrey 32767 (-2147483648)) ∧
  decode 0x0000000000000108#64 = .cmd (.blank .high) ∧
  decode 0x0000000000000001#64 = .cmd .init ∧
  decode 0x0000000000000007#64 = .cmd .pulse ∧
  decode 0x0000000000000006#64 = .cmd .wrgrey

/-- R77, R79: the dot frame: `DCW[95:90] = DOT[0]`, ..., `DCW[5:0] = DOT[15]`; bit `k = 6s + j` in shift order is
`DOT[s][5 - j]`, and it is the level of SERIAL in WRDOT's `k`-th triple; channel `c` is `DCW[6c+5 : 6c]`. -/
def Obligations.DotFrameLayout : Prop :=
  ∀ d : Vector (BitVec 6) 16,
    (∀ s j, (hs : s < 16) → j < 6 → (dotFrame d).getLsbD (95 - (6 * s + j)) = d[s].getLsbD (5 - j)) ∧
    (∀ k, k < 96 →
      (wrdotEvents (slotValues d))[1 + 3 * k]? =
        some (.write .serial (if (dotFrame d).getLsbD (95 - k) then .high else .low))) ∧
    (∀ c, (hc : c < 16) → dotField (dotFrame d) c = d[15 - c])

/-- R78, R79: the grey frame: bit `k = 12s + j` in shift order is `GREY[s][11 - j]`, and it is the level of SERIAL in
WRGREY's `k`-th triple; channel `c` is `GSW[12c+11 : 12c]`. -/
def Obligations.GreyFrameLayout : Prop :=
  ∀ g : Vector (BitVec 12) 16,
    (∀ s j, (hs : s < 16) → j < 12 → (greyFrame g).getLsbD (191 - (12 * s + j)) = g[s].getLsbD (11 - j)) ∧
    (∀ k, k < 192 →
      (wrgreyEvents (slotValues g))[1 + 3 * k]? =
        some (.write .serial (if (greyFrame g).getLsbD (191 - k) then .high else .low))) ∧
    (∀ c, (hc : c < 16) → greyField (greyFrame g) c = g[15 - c])

/-- R81: every command the assembler gives has a word that decodes back to it, and a comment changes nothing. What it
gives for each form is AssemblerReadsEachForm. -/
def Obligations.AssemblerGivesPresentableCommands : Prop :=
  (∀ (line : List Char) (is : List Instr), assembleLine line = some is →
    ∀ i, i ∈ is → i.wellFormed = true ∧ decode (encode i) = .cmd i) ∧
  (∀ line comment : List Char, assembleLine (line ++ ';' :: comment) = assembleLine line)

/-- R81, R82: each form gives its own command; an operand the port cannot carry gives none, it is never clamped. `a` and
`b` stand for the operands' text, read as AssemblerReadsIntegers says. The spelling of a line (its blanks and letter case)
is the model's choice (log 16). -/
def Obligations.AssemblerReadsEachForm : Prop :=
  (∀ (a b : List Char) (x y : Int), parseInt a = some x → parseInt b = some y →
    assembleLine (['S', 'E', 'T', 'D', 'O', 'T', ' '] ++ a ++ [',', ' '] ++ b) =
      (if -32768 ≤ x ∧ x ≤ 32767 ∧ -2147483648 ≤ y ∧ y ≤ 2147483647 then some [.setdot x y] else none) ∧
    assembleLine (['S', 'E', 'T', 'G', 'R', 'E', 'Y', ' '] ++ a ++ [',', ' '] ++ b) =
      (if -32768 ≤ x ∧ x ≤ 32767 ∧ -2147483648 ≤ y ∧ y ≤ 2147483647 then some [.setgrey x y] else none)) ∧
  (∀ (a : List Char) (v : Int), parseInt a = some v →
    assembleLine (['S', 'E', 'T', 'A', 'L', 'L', 'D', 'O', 'T', ' '] ++ a) =
      (if -2147483648 ≤ v ∧ v ≤ 2147483647 then some ((List.range 16).map fun c => .setdot c v) else none) ∧
    assembleLine (['S', 'E', 'T', 'A', 'L', 'L', 'G', 'R', 'E', 'Y', ' '] ++ a) =
      (if -2147483648 ≤ v ∧ v ≤ 2147483647 then some ((List.range 16).map fun c => .setgrey c v) else none)) ∧
  (∀ text, text ∈ ["0", "LOW", "false"] → assembleLine ("BLANK " ++ text).toList = some [.blank .low]) ∧
  (∀ text, text ∈ ["1", "HIGH", "true"] → assembleLine ("BLANK " ++ text).toList = some [.blank .high]) ∧
  assembleLine "INIT".toList = some [.init] ∧ assembleLine "RESET".toList = some [.reset] ∧
  assembleLine "WRDOT".toList = some [.wrdot] ∧ assembleLine "WRGREY".toList = some [.wrgrey] ∧
  assembleLine "PULSE".toList = some [.pulse] ∧ assembleLine "CLEANUP".toList = some [.cleanup] ∧
  assembleLine "REFRESH".toList = some [.wrgrey, .pulse] ∧
  assembleLine "SHUTDOWN".toList = some [.blank .high, .cleanup]

/-- R81: operands are integers in decimal or `0x` hexadecimal, with an optional leading `-`. -/
def Obligations.AssemblerReadsIntegers : Prop :=
  ∀ n : Nat,
    parseInt (Nat.toDigits 10 n) = some (n : Int) ∧ parseInt ('-' :: Nat.toDigits 10 n) = some (-(n : Int)) ∧
    parseInt ('0' :: 'x' :: Nat.toDigits 16 n) = some (n : Int) ∧
    parseInt ('-' :: '0' :: 'x' :: Nat.toDigits 16 n) = some (-(n : Int))

/-! ## 40_sequencer.md -/

/-- R100, R101: a step at an idle block that samples a legal word runs the decoded command, on the state with that sample
taken; `withFetchWord` presents such a word. -/
def Obligations.StepRunsDecodedCommand : Prop :=
  ∀ (s : State) (w : Word) (i : Instr), s.queue = [] → s.phase ≠ .fault → decode w = .cmd i →
    (s.presented w → step s = exec i { s with inputs := s.inputs.tail }) ∧
    step (s.withFetchWord 64 w.toNat) = exec i { s with inputs := s.inputs.tail }

/-- R110: a step with no command, no cancel taken and the block not busy changes nothing. -/
def Obligations.IdleStepChangesNothing : Prop :=
  ∀ s : State, s.queue = [] → s.sampled.rst = none → s.sampled.cmdValid = false →
    ¬(s.sampled.cancel = true ∧ s.phase = .ready) →
    step s = .next { s with inputs := s.inputs.tail }

/-- R107, R233: a cancel in READY, busy or idle, drops the remaining events and sets CANCELLED; in any other phase it is
ignored. Of the chip SR alone moves: to a free value where a frame was broken. What counts as a broken frame is the model's
choice (log 10). -/
def Obligations.CancelStopsReadyBlock : Prop :=
  (∀ s : State, s.phase = .ready → s.sampled.rst = none → s.sampled.cancel = true →
    ∃ t, step s = .next t ∧
      t = { s with queue := [], cur := none, idx := 0#14, phase := .cancelled, inputs := s.inputs.tail,
                   chip := t.chip, draws := t.draws } ∧
      t.chip.SameButSr s.chip ∧ (s.inFrame = false → t.chip = s.chip) ∧
      (s.inFrame = true → t.chip.sr = Config.freeSr s.draws)) ∧
  (∀ (s : State) (h : HostInput) (rest : List HostInput), s.inputs = h :: rest → s.phase ≠ .ready →
    step s = step { s with inputs := { h with cancel := false } :: rest })

/-- R103 with R203(a), R204, R205: what each phase refuses, as a fault at acceptance with no part of the command done. -/
def Obligations.AdmissionRefusals : Prop :=
  ∀ (i : Instr) (s : State), s.queue = [] →
    (s.phase = .uninit → i ≠ .init → exec i s = .next (faultedAtAcceptance 2#4 (encode i) s)) ∧
    (s.phase = .released → exec i s = .next (faultedAtAcceptance 3#4 (encode i) s)) ∧
    (s.phase = .cancelled → i ≠ .blank .high → i ≠ .cleanup →
      exec i s = .next (faultedAtAcceptance 4#4 (encode i) s))

/-- R104, R106: an event answered OK: its effect on CFG and LEVEL, one more event in TRACE, the sequencer's advance, and
completion at the last event; nothing else of the block changes. -/
def Obligations.EmissionAnsweredOk : Prop :=
  ∀ (s : State) (e : Event) (rest : List Event), s.emitting e rest →
    (∀ r lv, e = .write r lv → s.cfg.get r = true) → s.nextAnswer = .ok →
    ∃ t, step s = .next t ∧
      t = { s with trace := s.trace ++ [e], queue := rest, cfg := t.cfg, level := t.level, glc := t.glc, dlc := t.dlc,
                   cur := if rest = [] then none else s.cur, idx := if rest = [] then 0#14 else s.idx + 1,
                   chip := t.chip, draws := t.draws, inputs := s.inputs.tail, answers := s.answers.tail } ∧
      (∀ r, e = .configure r →
        (∀ q, t.cfg.get q = if q = r then true else s.cfg.get q) ∧ ∀ q, t.level.get q = s.level.get q) ∧
      (∀ r lv, e = .write r lv →
        (∀ q, t.cfg.get q = s.cfg.get q) ∧
        ∀ q, t.level.get q = if q = r then (if lv = .high then .high else .low) else s.level.get q) ∧
      (e = .teardown → ∀ q, t.cfg.get q = false ∧ t.level.get q = .released)

/-- R33, R34: the ghost lifecycles move on WRGREY's LATCH HIGH, on PULSE's last event and on WRDOT's LATCH HIGH, and on no
other event. -/
def Obligations.EmissionMovesLifecycles : Prop :=
  ∀ (s t : State) (e : Event) (rest : List Event), s.emitting e rest →
    (∀ r lv, e = .write r lv → s.cfg.get r = true) → s.nextAnswer = .ok → step s = .next t →
    (s.cur = some 0x6#64 → e = .write .latch .high → s.glc = .shiftedNotLatched →
      t.glc = .latchedPendingRefresh) ∧
    (s.cur = some 0x7#64 → rest = [] → s.glc = .latchedPendingRefresh ∨ s.glc = .idle → t.glc = .displayed) ∧
    (t.glc ≠ s.glc →
      (s.cur = some 0x6#64 ∧ e = .write .latch .high ∧ s.glc = .shiftedNotLatched) ∨
        (s.cur = some 0x7#64 ∧ rest = [] ∧ (s.glc = .latchedPendingRefresh ∨ s.glc = .idle))) ∧
    (s.cur = some 0x5#64 → e = .write .latch .high → t.dlc = .latchedActive) ∧
    (t.dlc ≠ s.dlc → s.cur = some 0x5#64 ∧ e = .write .latch .high)

/-- R105 with R207, R208, R209: an event answered FAIL faults, is not in TRACE, leaves its line unknown and CFG as it was;
the record holds the cause, CUR, IDX and the role. The chip has taken the event or has not (R211; log 11), and SR is a
free value where a frame was broken (R233; log 10). -/
def Obligations.EmissionAnsweredFail : Prop :=
  ∀ (s : State) (e : Event) (rest : List Event) (w : Word), s.emitting e rest → s.cur = some w →
    (∀ r lv, e = .write r lv → s.cfg.get r = true) → s.nextAnswer = .fail →
    ∃ t, step s = .next t ∧
      t = { s with fault := t.fault, level := t.level, queue := [], cur := none, idx := 0#14, phase := .fault,
                   chip := t.chip, draws := t.draws, inputs := s.inputs.tail, answers := s.answers.tail } ∧
      t.fault.cmd = w ∧ t.fault.idx = s.idx ∧
      (∀ r, e = .configure r → t.fault.cause = 6#4 ∧ t.fault.role = roleCode r ∧
        ∀ q, t.level.get q = if q = r then .unknown else s.level.get q) ∧
      (∀ r lv, e = .write r lv → t.fault.cause = 7#4 ∧ t.fault.role = roleCode r ∧
        ∀ q, t.level.get q = if q = r then .unknown else s.level.get q) ∧
      (e = .teardown → t.fault.cause = 8#4 ∧ t.fault.role = 7#3 ∧ ∀ q, t.level.get q = .unknown) ∧
      (t.chip.SameButSr s.chip ∨ t.chip.SameButSr (s.chip.observe s.level s.draws e)) ∧
      (s.inFrame = false → t.chip = s.chip ∨ t.chip = s.chip.observe s.level s.draws e) ∧
      (s.inFrame = true → t.chip.sr = Config.freeSr (s.draws + 1))

/-- R109: the index law of SHIFTOUT, its length and its number of CLK HIGH events. -/
def Obligations.ShiftoutIndexLaw : Prop :=
  ∀ (vs : List Nat) (w : Nat), 1 ≤ w →
    (shiftOut vs w).length = 3 * w * vs.length ∧
    (shiftOut vs w).count (.write .clk .high) = w * vs.length ∧
    (∀ k, (hk : k < w * vs.length) →
      (shiftOut vs w)[3 * k]? =
        some (.write .serial
          (if (vs[k / w]'(Nat.div_lt_of_lt_mul hk)).testBit (w - 1 - k % w) then .high else .low)) ∧
      (shiftOut vs w)[3 * k + 1]? = some (.write .clk .high) ∧
      (shiftOut vs w)[3 * k + 2]? = some (.write .clk .low))

/-- R106, R112: a command accepted by a reachable READY block runs to completion when the host is quiet and every call
succeeds, one step an event: TRACE gains its whole list, the sequencer is empty, and no register changes on the way. -/
def Obligations.CommandRunsToCompletion : Prop :=
  ∀ s : State, s.Inv → s.phase = .ready → s.hostQuiet = true → s.answersOk = true →
    ∃ t, runSteps s.queue.length s = .next t ∧
      t.trace = s.trace ++ s.queue ∧ t.queue = [] ∧ t.cur = none ∧ t.idx = 0#14 ∧ t.phase = .ready ∧
      t.dot = s.dot ∧ t.grey = s.grey ∧ t.first = s.first ∧ t.fault = s.fault ∧ t.pins = s.pins ∧
      t.configOrder = s.configOrder ∧
      t.cfg = cfgAfterAll s.queue s.cfg ∧ t.level = levelsAfterAll s.queue s.level

/-- R56, R100, R104: a step that does not sample block reset adds to TRACE nothing or the head of Q, which then leaves
Q; TRACE never loses an event. -/
def Obligations.TraceGrowsByHeadOfQueue : Prop :=
  ∀ s t : State, step s = .next t → s.sampled.rst = none →
    t.trace = s.trace ∨ ∃ e rest, s.queue = e :: rest ∧ t.queue = rest ∧ t.trace = s.trace ++ [e]

/-- R30, R80: the call an event answered OK makes on the physical port: the line its role is bound to, and the level as 0
or 1. -/
def Obligations.PortCarriesLineAndBit : Prop :=
  ∀ (s : State) (e : Event) (rest : List Event), s.emitting e rest →
    (∀ r lv, e = .write r lv → s.cfg.get r = true) → s.nextAnswer = .ok →
    ∃ t, step s = .next t ∧
      (∀ r, e = .configure r → t.portTrace = s.portTrace ++ [.configureOutput (s.pins.get r)]) ∧
      (∀ r, e = .write r .low → t.portTrace = s.portTrace ++ [.write (s.pins.get r) 0#1]) ∧
      (∀ r, e = .write r .high → t.portTrace = s.portTrace ++ [.write (s.pins.get r) 1#1]) ∧
      (e = .teardown → t.portTrace = s.portTrace ++ [.teardown])

/-! ## 42_channel_values.md -/

/-- R140: SETDOT in READY writes one slot and nothing else but the ghost DLC; no operand value raises anything. -/
def Obligations.SetdotWritesClampedSlot : Prop :=
  ∀ (s : State) (ch val : Int), s.phase = .ready →
    ∃ (slot : Fin 16) (v : BitVec 6),
      exec (.setdot ch val) s =
        .next { s with dot := s.dot.set slot.val v, dlc := .valuesStaged, queue := [], idx := 0#14, cur := none } ∧
      (ch < 0 → slot.val = 15) ∧ (15 < ch → slot.val = 0) ∧
      (0 ≤ ch → ch ≤ 15 → (slot.val : Int) = 15 - ch) ∧
      (val < 0 → v = 0#6) ∧ (63 < val → v = 63#6) ∧ (0 ≤ val → val ≤ 63 → (v.toNat : Int) = val)

/-- R141: SETGREY in READY writes one slot and nothing else but the ghost GLC; no operand value raises anything. GLC is set
from every state, as R141 writes it (log 15). -/
def Obligations.SetgreyWritesClampedSlot : Prop :=
  ∀ (s : State) (ch val : Int), s.phase = .ready →
    ∃ (slot : Fin 16) (v : BitVec 12),
      exec (.setgrey ch val) s =
        .next { s with grey := s.grey.set slot.val v, glc := .valuesStaged, queue := [], idx := 0#14, cur := none } ∧
      (ch < 0 → slot.val = 15) ∧ (15 < ch → slot.val = 0) ∧
      (0 ≤ ch → ch ≤ 15 → (slot.val : Int) = 15 - ch) ∧
      (val < 0 → v = 0#12) ∧ (4095 < val → v = 4095#12) ∧ (0 ≤ val → val ≤ 4095 → (v.toNat : Int) = val)

/-- R143: `slot(c) = 15 - c` is a bijection of 0..15 and its own inverse. -/
def Obligations.SlotMapIsReversal : Prop :=
  ∀ c : Nat, c ≤ 15 →
    (slotOfChannel c).val = 15 - c ∧ (slotOfChannel (slotOfChannel c).val).val = c ∧
      slotOf (Int.ofNat c) = slotOfChannel c

/-- R59: a value SETDOT stores is on the wire of the WRDOT that follows it, at the place of its slot. -/
def Obligations.WrdotShiftsWhatSetdotStored : Prop :=
  ∀ (s : State) (ch val : Int), s.phase = .ready →
    ∃ t u, exec (.setdot ch val) s = .next t ∧ exec .wrdot t = .next u ∧
      ∀ j, j < 6 →
        u.queue[1 + 3 * (6 * (slotOf ch).val + j)]? =
          some (.write .serial (if (clamp 0 63 val).toNat.testBit (5 - j) then .high else .low))

/-! ## 41_init_reset.md -/

/-- R121 with R122, R123, R125: RESET in READY sets every value register whatever it held, clears FIRST, and its events
are those of the index table, the one-shot pair present exactly when FIRST was 1. GLC and DLC are set from every state, as
R121 writes it (log 15). -/
def Obligations.ResetEffectAndEvents : Prop :=
  ∀ s : State, s.phase = .ready →
    ∃ q, exec .reset s =
        .next { s with dot := Vector.replicate 16 0x3F#6, grey := Vector.replicate 16 0xFFF#12, first := false,
                       glc := .idle, dlc := .idle, queue := q, idx := 0#14, cur := some 0x2#64 } ∧
      ResetTable q 0 s.first

/-- R120 with R124: INIT in UNINIT and in READY sets READY and does what RESET does after the configure calls, made in
CONFIG_ORDER, whatever that order is. -/
def Obligations.InitEffectAndEvents : Prop :=
  ∀ s : State, s.phase = .uninit ∨ s.phase = .ready → s.configOrder.length = 6 →
    ∃ q, exec .init s =
        .next { s with dot := Vector.replicate 16 0x3F#6, grey := Vector.replicate 16 0xFFF#12, first := false,
                       glc := .idle, dlc := .idle, phase := .ready, queue := q, idx := 0#14, cur := some 0x1#64 } ∧
      q.take 6 = s.configOrder.map Event.configure ∧ ResetTable q 6 s.first

/-! ## 43_serial_writes.md -/

/-- R150, R152: WRDOT in READY writes no register but the ghost DLC and emits the 291 events of the index table. -/
def Obligations.WrdotEventTable : Prop :=
  ∀ s : State, s.phase = .ready →
    ∃ q, exec .wrdot s =
        .next { s with dlc := .shiftedNotLatched, queue := q, idx := 0#14, cur := some 0x5#64 } ∧
      q.length = 291 ∧ q[0]? = some (.write .prog .high) ∧
      ShiftTriples q 1 96 (fun k => (s.dot.toList.getD (k / 6) 0#6).getLsbD (5 - k % 6)) ∧
      q[289]? = some (.write .latch .high) ∧ q[290]? = some (.write .latch .low)

/-- R151, R153: WRGREY in READY writes no register but the ghost GLC and emits the 579 events of the index table. GLC is
set from every state, as R151 writes it (log 15). -/
def Obligations.WrgreyEventTable : Prop :=
  ∀ s : State, s.phase = .ready →
    ∃ q, exec .wrgrey s =
        .next { s with glc := .shiftedNotLatched, queue := q, idx := 0#14, cur := some 0x6#64 } ∧
      q.length = 579 ∧ q[0]? = some (.write .prog .low) ∧
      ShiftTriples q 1 192 (fun k => (s.grey.toList.getD (k / 12) 0#12).getLsbD (11 - k % 12)) ∧
      q[577]? = some (.write .latch .high) ∧ q[578]? = some (.write .latch .low)

/-! ## 44_pwm_blank.md and 45_cleanup.md -/

/-- R170, R171: PULSE in READY writes no register and emits the 8194 events of the index table. -/
def Obligations.PulseEventTable : Prop :=
  ∀ s : State, s.phase = .ready →
    ∃ q, exec .pulse s = .next { s with queue := q, idx := 0#14, cur := some 0x7#64 } ∧
      q.length = 8194 ∧ q[0]? = some (.write .blank .high) ∧ q[1]? = some (.write .blank .low) ∧
      ∀ i, i < 4096 →
        q[2 + 2 * i]? = some (.write .gsclk .high) ∧ q[3 + 2 * i]? = some (.write .gsclk .low)

/-- R172: inside a PULSE the count of grayscale pulses is `(IDX - 2) div 2`: at the index of either write of pulse `i` it
is `i`, and those two writes are the GSCLK pulse; before the first pulse and outside a PULSE the timer does not run. -/
def Obligations.PwmCountNumbersThePulse : Prop :=
  ∀ s : State,
    (s.cur = some 0x7#64 → ∀ i, i < 4096 →
      (s.idx.toNat = 2 + 2 * i → s.pwmCount = some i ∧ pulseEvents[s.idx.toNat]? = some (.write .gsclk .high)) ∧
      (s.idx.toNat = 3 + 2 * i → s.pwmCount = some i ∧ pulseEvents[s.idx.toNat]? = some (.write .gsclk .low))) ∧
    (s.idx.toNat < 2 → s.pwmCount = none) ∧
    (s.cur ≠ some 0x7#64 → s.pwmCount = none)

/-- R173: BLANK emits one write of BLANK at its level and writes no register; it is accepted in READY, and BLANK 1 in
CANCELLED too. -/
def Obligations.BlankEmitsItsLevel : Prop :=
  ∀ (s : State) (lvl : Level), s.phase = .ready ∨ (s.phase = .cancelled ∧ lvl = .high) →
    exec (.blank lvl) s =
      .next { s with queue := [.write .blank lvl], idx := 0#14,
                     cur := some (if lvl = .high then 0x108#64 else 0x8#64) }

/-- R190: CLEANUP in READY and in CANCELLED sets RELEASED and emits one teardown. -/
def Obligations.CleanupReleases : Prop :=
  ∀ s : State, s.phase = .ready ∨ s.phase = .cancelled →
    exec .cleanup s =
      .next { s with phase := .released, queue := [.teardown], idx := 0#14, cur := some 0x9#64 }

/-! ## 60_exceptions.md -/

/-- R200, R212: FAULT is terminal: no step without block reset changes anything. -/
def Obligations.FaultIsTerminal : Prop :=
  ∀ s : State, s.phase = .fault → s.sampled.rst = none → step s = .next { s with inputs := s.inputs.tail }

/-- R202: an illegal word presented to an idle block raises E_ILLEGAL_CMD in every phase but FAULT. -/
def Obligations.IllegalWordFaults : Prop :=
  ∀ (s : State) (w : Word), s.queue = [] → s.presented w → (∃ why, decode w = .illegal why) →
    step s = .next (faultedAtAcceptance 1#4 w { s with inputs := s.inputs.tail })

/-- R203(b), R233: a write to an unconfigured role faults before any call is made: no answer is taken, and the record holds
CUR, IDX and the role. Of the chip SR alone moves: to a free value where a frame was broken, which the model defines (log
10). -/
def Obligations.UnconfiguredWriteFaults : Prop :=
  ∀ (s : State) (r : Role) (lv : Level) (rest : List Event) (w : Word), s.emitting (.write r lv) rest →
    s.cur = some w → s.cfg.get r = false →
    ∃ t, step s = .next t ∧
      t = { s with fault := ⟨2#4, w, s.idx, roleCode r⟩, queue := [], cur := none, idx := 0#14, phase := .fault,
                   chip := t.chip, draws := t.draws, inputs := s.inputs.tail } ∧
      t.chip.SameButSr s.chip ∧ (s.inFrame = false → t.chip = s.chip) ∧
      (s.inFrame = true → t.chip.sr = Config.freeSr s.draws)

/-- R206, R233: any word presented while busy, legal or not, raises E_OVERRUN and abandons the command in progress. Of the
chip SR alone moves: to a free value where a frame was broken. What counts as a broken frame is the model's choice (log
10). -/
def Obligations.OverrunFaults : Prop :=
  ∀ (s : State) (w : Word), s.queue ≠ [] → s.presented w →
    ∃ t, step s = .next t ∧
      t = { s with fault := ⟨5#4, w, 0#14, 7#3⟩, queue := [], cur := none, idx := 0#14, phase := .fault,
                   chip := t.chip, draws := t.draws, inputs := s.inputs.tail } ∧
      t.chip.SameButSr s.chip ∧ (s.inFrame = false → t.chip = s.chip) ∧
      (s.inFrame = true → t.chip.sr = Config.freeSr s.draws)

/-- R211, R208: faults are precise: when the calls for the first `k` events of a just accepted command succeed and the
next fails, exactly those `k` events are in TRACE and took effect on their lines, the failing event's line is unknown, and
the record holds the index `k`. -/
def Obligations.FailureIsPrecise : Prop :=
  ∀ (s : State) (k : Nat) (later : List Answer) (e : Event) (w : Word), s.Inv → s.phase = .ready →
    s.hostQuiet = true → s.idx = 0#14 → s.cur = some w → s.queue[k]? = some e →
    s.answers = List.replicate k .ok ++ .fail :: later →
    ∃ t, runSteps (k + 1) s = .next t ∧
      t.trace = s.trace ++ s.queue.take k ∧ t.queue = [] ∧ t.phase = .fault ∧
      t.fault.cmd = w ∧ t.fault.idx.toNat = k ∧ t.fault.role = roleCodeOf (eventRole e) ∧
      (∀ r, t.level.get r =
        if eventRole e = some r then .unknown else (levelsAfterAll (s.queue.take k) s.level).get r) ∧
      t.cfg = cfgAfterAll (s.queue.take k) s.cfg ∧
      t.dot = s.dot ∧ t.grey = s.grey ∧ t.first = s.first

/-- R203: in READY no reachable block meets an unconfigured role; the causes a step can raise there are 1, 5, 6 and 7. -/
def Obligations.ReadyFaultCauses : Prop :=
  ∀ s t : State, s.Inv → s.phase = .ready → s.sampled.rst = none → step s = .next t → t.phase = .fault →
    t.fault.cause = 1#4 ∨ t.fault.cause = 5#4 ∨ t.fault.cause = 6#4 ∨ t.fault.cause = 7#4

/-- R103, R214: after a cancel the only event a reachable block makes before it is released is BLANK HIGH. -/
def Obligations.CancelledMakesOnlyBlankHigh : Prop :=
  ∀ s t : State, s.Inv → s.phase = .cancelled → s.sampled.rst = none → step s = .next t →
    t.trace = s.trace ∨ t.trace = s.trace ++ [.write .blank .high]

/-- R214: the cancellation contract: cancel, BLANK 1, its event, CLEANUP, its event. TRACE ends with BLANK HIGH and the
teardown, the phase is RELEASED, every line is released, and the outputs are off from the BLANK HIGH to the teardown. -/
def Obligations.CancellationContract : Prop :=
  ∀ (s : State) (later : List HostInput), s.phase = .ready → s.cfg.get .blank = true → s.answersOk = true →
    s.inputs = [HostInput.cancelled, HostInput.present 0x108#64, HostInput.quiet, HostInput.present 0x9#64,
      HostInput.quiet] ++ later →
    ∃ u v t, runSteps 3 s = .next u ∧ u.trace = s.trace ++ [.write .blank .high] ∧ u.outputsEnabled = some false ∧
      runSteps 4 s = .next v ∧ v.outputsEnabled = some false ∧
      runSteps 5 s = .next t ∧ t.trace = s.trace ++ [.write .blank .high, .teardown] ∧ t.phase = .released ∧
      t.queue = [] ∧ (∀ r, t.level.get r = .released ∧ t.cfg.get r = false) ∧ t.fault = s.fault ∧
      t.inputs = later

/-- R234, R173: the output gate follows BLANK: after its HIGH every output is off, after its LOW they are enabled, and only
an event on BLANK, made or failed, or a teardown changes it. -/
def Obligations.OutputsFollowBlank : Prop :=
  ∀ s t : State, step s = .next t → s.sampled.rst = none →
    (t.trace = s.trace ++ [.write .blank .high] → t.outputsEnabled = some false) ∧
    (t.trace = s.trace ++ [.write .blank .low] → t.outputsEnabled = some true) ∧
    (t.outputsEnabled ≠ s.outputsEnabled →
      ∃ e rest, s.queue = e :: rest ∧ (eventRole e = some .blank ∨ e = .teardown))

/-- R231, R232, R154: on every reachable step CLK rises only from LOW with SERIAL driven, and LATCH only from LOW with PROG
driven. -/
def Obligations.EdgesComeFromDrivenLines : Prop :=
  ∀ s t : State, s.Inv → step s = .next t →
    (t.trace = s.trace ++ [.write .clk .high] →
      s.level.clk = .low ∧ (s.level.serial = .low ∨ s.level.serial = .high)) ∧
    (t.trace = s.trace ++ [.write .latch .high] →
      s.level.latch = .low ∧ (s.level.prog = .low ∨ s.level.prog = .high))

/-- R235, R155: a WRDOT that runs to its end puts DOT into the chip's dot-correction register, channel by channel, leaves
the grayscale registers alone, and ends at the levels of R155. It rests on the observer's reading of the chip, which
60_exceptions.md R232 calls this spec's choice (D23). -/
def Obligations.WrdotReachesChip : Prop :=
  ∀ s : State, s.ReadyIdle →
    ∃ u t, exec .wrdot s = .next u ∧ runSteps 291 u = .next t ∧
      t.chip.dcr = dotFrame s.dot ∧ (∀ c, (hc : c < 16) → dotField t.chip.dcr c = s.dot[15 - c]) ∧
      t.chip.gsl = s.chip.gsl ∧ t.chip.gsa = s.chip.gsa ∧ t.chip.gscnt = s.chip.gscnt ∧
      t.level = ⟨s.level.blank, .high, .low, s.level.gsclk, if s.dot[15].getLsbD 0 then .high else .low, .low⟩ ∧
      t.dlc = .latchedActive ∧ t.glc = s.glc ∧ t.phase = .ready ∧ t.queue = []

/-- R235, R155: a WRGREY that runs to its end puts GREY into the chip's latched grayscale register, channel by channel,
shows nothing yet, and ends at the levels of R155. It rests on the observer's reading of the chip (D23). -/
def Obligations.WrgreyReachesChip : Prop :=
  ∀ s : State, s.ReadyIdle →
    ∃ u t, exec .wrgrey s = .next u ∧ runSteps 579 u = .next t ∧
      t.chip.gsl = greyFrame s.grey ∧ (∀ c, (hc : c < 16) → greyField t.chip.gsl c = s.grey[15 - c]) ∧
      t.chip.dcr = s.chip.dcr ∧ t.chip.gsa = s.chip.gsa ∧ t.chip.gscnt = s.chip.gscnt ∧
      t.level = ⟨s.level.blank, .low, .low, s.level.gsclk, if s.grey[15].getLsbD 0 then .high else .low, .low⟩ ∧
      t.glc = .latchedPendingRefresh ∧ t.dlc = s.dlc ∧ t.phase = .ready ∧ t.queue = []

/-- R234, R235, R255: a PULSE that runs to its end moves the latched frame into the active register and counts 4096 edges,
or 4095 or 4096 if GSCLK was not yet driven; BLANK ends LOW. The free edge is taken at any value (log 9). -/
def Obligations.PulseShowsLatchedGrey : Prop :=
  ∀ s : State, s.ReadyIdle →
    ∃ u t, exec .pulse s = .next u ∧ runSteps 8194 u = .next t ∧
      t.chip.gsa = s.chip.gsl ∧ t.chip.gsl = s.chip.gsl ∧ t.chip.dcr = s.chip.dcr ∧ t.chip.sr = s.chip.sr ∧
      (s.level.gsclk = .low → t.chip.gscnt = 4096) ∧
      (s.level.gsclk = .unknown → t.chip.gscnt = 4095 ∨ t.chip.gscnt = 4096) ∧
      t.level = ⟨.low, s.level.prog, s.level.latch, .low, s.level.serial, s.level.clk⟩ ∧
      (s.glc = .latchedPendingRefresh → t.glc = .displayed) ∧ t.phase = .ready ∧ t.queue = []

/-! ## 10_state.md -/

/-- R22: the value registers are written only by SETDOT, SETGREY, RESET and INIT (and by construction). -/
def Obligations.ValueRegisterWriters : Prop :=
  ∀ s t : State, step s = .next t → s.sampled.rst = none →
    (t.dot ≠ s.dot →
      s.sampled.cmdValid = true ∧
        (decode s.sampled.cmd = .cmd .init ∨ decode s.sampled.cmd = .cmd .reset ∨
          ∃ ch val, decode s.sampled.cmd = .cmd (.setdot ch val))) ∧
    (t.grey ≠ s.grey →
      s.sampled.cmdValid = true ∧
        (decode s.sampled.cmd = .cmd .init ∨ decode s.sampled.cmd = .cmd .reset ∨
          ∃ ch val, decode s.sampled.cmd = .cmd (.setgrey ch val)))

/-- R23: FIRST is cleared by an accepted RESET or INIT and by nothing else, and only block reset sets it again. -/
def Obligations.FirstIsClearedOnce : Prop :=
  ∀ s t : State, step s = .next t → s.sampled.rst = none →
    (s.first = false → t.first = false) ∧
    (s.first = true → t.first = false →
      s.sampled.cmdValid = true ∧
        (decode s.sampled.cmd = .cmd .init ∨ decode s.sampled.cmd = .cmd .reset) ∧ t.phase = .ready)

/-- R26: the transitions of PHASE; none leaves FAULT but block reset. -/
def Obligations.PhaseTransitions : Prop :=
  ∀ s t : State, step s = .next t → s.sampled.rst = none →
    t.phase = s.phase ∨
    (s.phase = .uninit ∧ t.phase = .ready ∧ s.sampled.cmdValid = true ∧ decode s.sampled.cmd = .cmd .init) ∨
    (s.phase = .ready ∧ t.phase = .cancelled ∧ s.sampled.cancel = true) ∨
    ((s.phase = .ready ∨ s.phase = .cancelled) ∧ t.phase = .released ∧ s.sampled.cmdValid = true ∧
      decode s.sampled.cmd = .cmd .cleanup) ∨
    (s.phase ≠ .fault ∧ t.phase = .fault)

/-- R31: the fault record is written once, by the step that enters FAULT. -/
def Obligations.FaultRecordWrittenOnce : Prop :=
  ∀ s t : State, step s = .next t → s.sampled.rst = none →
    t.fault ≠ s.fault → s.phase ≠ .fault ∧ t.phase = .fault

/-- R32: the status port hides the value registers: two blocks that differ at most in them (and in the data bits, the SERIAL
level and the chip that follow from them) show the same status after every step, and stay so. -/
def Obligations.StatusHidesValues : Prop :=
  ∀ s t s' : State, s.SameButValues t → step s = .next s' →
    ∃ t', step t = .next t' ∧ s'.SameButValues t' ∧ s'.status = t'.status ∧ s'.cmdReady = t'.cmdReady

/-! ## 70_reset_and_hazards.md -/

/-- R250: block reset from any state and phase: every element at its reset value, the PINMAP bound, no pin call made, the
lines at PRELEVEL whatever it is (log 13). That a step takes it before all else, and that the host's inputs, the answers
and CONFIG_ORDER go on, is the model's choice (log 4). -/
def Obligations.BlockResetConstructs : Prop :=
  ∀ (s : State) (req : RoleFile (Option Nat)) (line : Role → Nat), s.sampled.rst = some req →
    BindsAllDistinct req line →
    ∃ t, step s = .next t ∧
      (∀ k, (hk : k < 16) → t.dot[k] = 0x3F#6 ∧ t.grey[k] = 0xFFF#12) ∧ t.first = true ∧
      (∀ r, t.level.get r = .unknown ∧ t.cfg.get r = false ∧ t.pins.get r = line r) ∧
      t.phase = .uninit ∧ t.cur = none ∧ t.queue = [] ∧ t.idx = 0#14 ∧ t.trace = [] ∧
      t.fault = ⟨0#4, 0#64, 0#14, 7#3⟩ ∧ t.glc = .uninitialized ∧ t.dlc = .uninitialized ∧
      (∀ r, t.lineShows r = some (Config.preLevel t.preDraw r)) ∧
      t.configOrder = s.configOrder ∧ t.inputs = s.inputs.tail ∧ t.answers = s.answers

/-- R250: the constructed block of State.reset: the table that closes 10_state.md. -/
def Obligations.ResetStateTable : Prop :=
  (∀ k, (hk : k < 16) → State.reset.dot[k] = 0x3F#6 ∧ State.reset.grey[k] = 0xFFF#12) ∧
  State.reset.first = true ∧
  (∀ r, State.reset.level.get r = .unknown ∧ State.reset.cfg.get r = false) ∧
  State.reset.phase = .uninit ∧ State.reset.cur = none ∧ State.reset.queue = [] ∧ State.reset.idx = 0#14 ∧
  State.reset.busy = false ∧ State.reset.trace = [] ∧ State.reset.fault = ⟨0#4, 0#64, 0#14, 7#3⟩ ∧
  State.reset.glc = .uninitialized ∧ State.reset.dlc = .uninitialized

/-- R251: a step is refused exactly when it samples block reset with a PINMAP that does not bind all six roles to distinct
lines (D18); every other step answers a next state. That a refused construction is a step's refusal is the model's reading
(log 5), and so is that block reset comes before FAULT, cancel and a command (log 4). -/
def Obligations.OnlyBadConstructionIsRefused : Prop :=
  ∀ s : State,
    (step s = .refused .constructionRefused ↔
      ∃ req, s.sampled.rst = some req ∧ ¬∃ line, BindsAllDistinct req line) ∧
    (step s ≠ .refused .constructionRefused → ∃ t, step s = .next t)

/-- R254: the state after the first INIT completes with every answer OK, for every CONFIG_ORDER. The chip's part rests on
the observer (D23). -/
def Obligations.StateAfterFirstInit : Prop :=
  ∀ s : State, s.Inv → s.phase = .uninit → s.hostQuiet = true → s.answersOk = true →
    ∃ u t, exec .init s = .next u ∧ runSteps 883 u = .next t ∧
      t.phase = .ready ∧ (∀ k, (hk : k < 16) → t.dot[k] = 0x3F#6 ∧ t.grey[k] = 0xFFF#12) ∧ t.first = false ∧
      (∀ r, t.cfg.get r = true) ∧ t.level = ⟨.high, .low, .low, .unknown, .high, .low⟩ ∧
      t.trace.length = 883 ∧ t.trace.take 6 = s.configOrder.map Event.configure ∧
      t.glc = .idle ∧ t.dlc = .idle ∧ t.queue = [] ∧ t.fault = clearRecord ∧
      (∀ c, c < 16 → dotField t.chip.dcr c = 0x3F#6 ∧ greyField t.chip.gsl c = 0xFFF#12)

/-- R263: the number of events of each of the nine commands, of CLK HIGH and of GSCLK HIGH among them, whatever the order of
the configure calls and the contents of the value registers. -/
def Obligations.EventCounts : Prop :=
  ∀ (s : State) (i : Instr), s.configOrder.length = 6 → s.phase = .ready ∨ (s.phase = .uninit ∧ i = .init) →
    ∃ t, exec i s = .next t ∧ t.queue.length = eventCount s.first i ∧
      t.queue.count (.write .clk .high) = clkHighCount s.first i ∧
      t.queue.count (.write .gsclk .high) = gsclkHighCount i

/-! ## The invariant of the reachable states -/

/-- The invariant of `State.Inv` holds right after reset. -/
def Obligations.ResetMeetsInvariant : Prop := State.reset.Inv

/-- Every step keeps the invariant of `State.Inv`, from every state that meets it. -/
def Obligations.StepKeepsInvariant : Prop :=
  ∀ s t : State, s.Inv → step s = .next t → t.Inv
end

