-- ==== Sys2Proof/Laws/Encode.lean ====
section
/-!
SUPPORT. The fields of a packed command word (30_encoding.md R70, R81), and the levels of the L field.
-/

namespace Sys2Proof

theorem getLsbD_packWord (op : BitVec 4) (l : BitVec 1) (ch : BitVec 16) (val : BitVec 32) (k : Nat) (hk : k < 64) :
    (packWord op l ch val).getLsbD k =
      (op.getLsbD k || (decide (8 ≤ k) && l.getLsbD (k - 8)) || (decide (16 ≤ k) && ch.getLsbD (k - 16)) ||
        (decide (32 ≤ k) && val.getLsbD (k - 32))) := by
  simp only [packWord, BitVec.getLsbD_or, BitVec.getLsbD_shiftLeft, BitVec.getLsbD_setWidth]
  have e8 : (!decide (k < 8)) = decide (8 ≤ k) := by rw [← decide_not]; exact decide_eq_decide.2 Nat.not_lt
  have e16 : (!decide (k < 16)) = decide (16 ≤ k) := by rw [← decide_not]; exact decide_eq_decide.2 Nat.not_lt
  have e32 : (!decide (k < 32)) = decide (32 ≤ k) := by rw [← decide_not]; exact decide_eq_decide.2 Nat.not_lt
  simp only [e8, e16, e32, hk, show k - 8 < 64 by omega, show k - 16 < 64 by omega, show k - 32 < 64 by omega,
    decide_true, Bool.true_and]

theorem opField_packWord (op : BitVec 4) (l : BitVec 1) (ch : BitVec 16) (val : BitVec 32) :
    opField (packWord op l ch val) = op := by
  refine BitVec.eq_of_getLsbD_eq fun k hk => ?_
  simp only [opField, BitVec.getLsbD_extractLsb', Nat.zero_add]
  rw [getLsbD_packWord _ _ _ _ _ (by omega)]
  simp [hk, show ¬ 8 ≤ k by omega, show ¬ 16 ≤ k by omega, show ¬ 32 ≤ k by omega]

theorem rsv0Field_packWord (op : BitVec 4) (l : BitVec 1) (ch : BitVec 16) (val : BitVec 32) :
    rsv0Field (packWord op l ch val) = 0#4 := by
  refine BitVec.eq_of_getLsbD_eq fun k hk => ?_
  simp only [rsv0Field, BitVec.getLsbD_extractLsb']
  rw [getLsbD_packWord _ _ _ _ _ (by omega)]
  simp [hk, show ¬ 8 ≤ 4 + k by omega, show ¬ 16 ≤ 4 + k by omega, show ¬ 32 ≤ 4 + k by omega]

theorem lField_packWord (op : BitVec 4) (l : BitVec 1) (ch : BitVec 16) (val : BitVec 32) :
    lField (packWord op l ch val) = l := by
  refine BitVec.eq_of_getLsbD_eq fun k hk => ?_
  simp only [lField, BitVec.getLsbD_extractLsb']
  rw [getLsbD_packWord _ _ _ _ _ (by omega)]
  simp [hk, show ¬ 16 ≤ 8 + k by omega, show ¬ 32 ≤ 8 + k by omega, BitVec.getLsbD_of_ge op (8 + k) (by omega)]

theorem rsv1Field_packWord (op : BitVec 4) (l : BitVec 1) (ch : BitVec 16) (val : BitVec 32) :
    rsv1Field (packWord op l ch val) = 0#7 := by
  refine BitVec.eq_of_getLsbD_eq fun k hk => ?_
  simp only [rsv1Field, BitVec.getLsbD_extractLsb']
  rw [getLsbD_packWord _ _ _ _ _ (by omega)]
  simp [hk, show ¬ 16 ≤ 9 + k by omega, show ¬ 32 ≤ 9 + k by omega, BitVec.getLsbD_of_ge op (9 + k) (by omega),
    BitVec.getLsbD_of_ge l (9 + k - 8) (by omega)]

theorem chField_packWord (op : BitVec 4) (l : BitVec 1) (ch : BitVec 16) (val : BitVec 32) :
    chField (packWord op l ch val) = ch := by
  refine BitVec.eq_of_getLsbD_eq fun k hk => ?_
  simp only [chField, BitVec.getLsbD_extractLsb']
  rw [getLsbD_packWord _ _ _ _ _ (by omega)]
  simp [hk, show ¬ 32 ≤ 16 + k by omega, BitVec.getLsbD_of_ge op (16 + k) (by omega),
    BitVec.getLsbD_of_ge l (16 + k - 8) (by omega)]

theorem valField_packWord (op : BitVec 4) (l : BitVec 1) (ch : BitVec 16) (val : BitVec 32) :
    valField (packWord op l ch val) = val := by
  refine BitVec.eq_of_getLsbD_eq fun k hk => ?_
  simp only [valField, BitVec.getLsbD_extractLsb']
  rw [getLsbD_packWord _ _ _ _ _ (by omega)]
  simp [hk, BitVec.getLsbD_of_ge op (32 + k) (by omega), BitVec.getLsbD_of_ge l (32 + k - 8) (by omega),
    BitVec.getLsbD_of_ge ch (32 + k - 16) (by omega)]

@[simp] theorem opField_encode (i : Instr) : opField (encode i) = opcodeOf i := opField_packWord _ _ _ _
@[simp] theorem rsv0Field_encode (i : Instr) : rsv0Field (encode i) = 0#4 := rsv0Field_packWord _ _ _ _
@[simp] theorem lField_encode (i : Instr) : lField (encode i) = lOf i := lField_packWord _ _ _ _
@[simp] theorem rsv1Field_encode (i : Instr) : rsv1Field (encode i) = 0#7 := rsv1Field_packWord _ _ _ _
@[simp] theorem chField_encode (i : Instr) : chField (encode i) = chOf i := chField_packWord _ _ _ _
@[simp] theorem valField_encode (i : Instr) : valField (encode i) = valOf i := valField_packWord _ _ _ _

end Sys2Proof
end

