-- ==== Sys2Proof/Laws/State.lean ====
section
/-!
SUPPORT. One lemma per field for each named update of the state, so that no later proof unfolds a record update.
-/

namespace Sys2Proof.Machine

/-! ## The sample of a step -/

@[simp] theorem dropInput_dot (s : State) : (s.dropInput).dot = s.dot := rfl
@[simp] theorem dropInput_grey (s : State) : (s.dropInput).grey = s.grey := rfl
@[simp] theorem dropInput_first (s : State) : (s.dropInput).first = s.first := rfl
@[simp] theorem dropInput_level (s : State) : (s.dropInput).level = s.level := rfl
@[simp] theorem dropInput_cfg (s : State) : (s.dropInput).cfg = s.cfg := rfl
@[simp] theorem dropInput_phase (s : State) : (s.dropInput).phase = s.phase := rfl
@[simp] theorem dropInput_cur (s : State) : (s.dropInput).cur = s.cur := rfl
@[simp] theorem dropInput_queue (s : State) : (s.dropInput).queue = s.queue := rfl
@[simp] theorem dropInput_idx (s : State) : (s.dropInput).idx = s.idx := rfl
@[simp] theorem dropInput_trace (s : State) : (s.dropInput).trace = s.trace := rfl
@[simp] theorem dropInput_fault (s : State) : (s.dropInput).fault = s.fault := rfl
@[simp] theorem dropInput_glc (s : State) : (s.dropInput).glc = s.glc := rfl
@[simp] theorem dropInput_dlc (s : State) : (s.dropInput).dlc = s.dlc := rfl
@[simp] theorem dropInput_chip (s : State) : (s.dropInput).chip = s.chip := rfl
@[simp] theorem dropInput_pins (s : State) : (s.dropInput).pins = s.pins := rfl
@[simp] theorem dropInput_configOrder (s : State) : (s.dropInput).configOrder = s.configOrder := rfl
@[simp] theorem dropInput_inputs (s : State) : (s.dropInput).inputs = s.inputs.tail := rfl
@[simp] theorem dropInput_answers (s : State) : (s.dropInput).answers = s.answers := rfl
@[simp] theorem dropInput_laterAnswer (s : State) : (s.dropInput).laterAnswer = s.laterAnswer := rfl
@[simp] theorem dropInput_draws (s : State) : (s.dropInput).draws = s.draws := rfl
@[simp] theorem dropInput_preDraw (s : State) : (s.dropInput).preDraw = s.preDraw := rfl

/-! ## An answer taken -/

@[simp] theorem dropAnswer_dot (s : State) : (s.dropAnswer).dot = s.dot := rfl
@[simp] theorem dropAnswer_grey (s : State) : (s.dropAnswer).grey = s.grey := rfl
@[simp] theorem dropAnswer_first (s : State) : (s.dropAnswer).first = s.first := rfl
@[simp] theorem dropAnswer_level (s : State) : (s.dropAnswer).level = s.level := rfl
@[simp] theorem dropAnswer_cfg (s : State) : (s.dropAnswer).cfg = s.cfg := rfl
@[simp] theorem dropAnswer_phase (s : State) : (s.dropAnswer).phase = s.phase := rfl
@[simp] theorem dropAnswer_cur (s : State) : (s.dropAnswer).cur = s.cur := rfl
@[simp] theorem dropAnswer_queue (s : State) : (s.dropAnswer).queue = s.queue := rfl
@[simp] theorem dropAnswer_idx (s : State) : (s.dropAnswer).idx = s.idx := rfl
@[simp] theorem dropAnswer_trace (s : State) : (s.dropAnswer).trace = s.trace := rfl
@[simp] theorem dropAnswer_fault (s : State) : (s.dropAnswer).fault = s.fault := rfl
@[simp] theorem dropAnswer_glc (s : State) : (s.dropAnswer).glc = s.glc := rfl
@[simp] theorem dropAnswer_dlc (s : State) : (s.dropAnswer).dlc = s.dlc := rfl
@[simp] theorem dropAnswer_chip (s : State) : (s.dropAnswer).chip = s.chip := rfl
@[simp] theorem dropAnswer_pins (s : State) : (s.dropAnswer).pins = s.pins := rfl
@[simp] theorem dropAnswer_configOrder (s : State) : (s.dropAnswer).configOrder = s.configOrder := rfl
@[simp] theorem dropAnswer_inputs (s : State) : (s.dropAnswer).inputs = s.inputs := rfl
@[simp] theorem dropAnswer_answers (s : State) : (s.dropAnswer).answers = s.answers.tail := rfl
@[simp] theorem dropAnswer_laterAnswer (s : State) : (s.dropAnswer).laterAnswer = s.laterAnswer := rfl
@[simp] theorem dropAnswer_draws (s : State) : (s.dropAnswer).draws = s.draws := rfl
@[simp] theorem dropAnswer_preDraw (s : State) : (s.dropAnswer).preDraw = s.preDraw := rfl

/-! ## Completion -/

@[simp] theorem complete_dot (s : State) : (complete s).dot = s.dot := rfl
@[simp] theorem complete_grey (s : State) : (complete s).grey = s.grey := rfl
@[simp] theorem complete_first (s : State) : (complete s).first = s.first := rfl
@[simp] theorem complete_level (s : State) : (complete s).level = s.level := rfl
@[simp] theorem complete_cfg (s : State) : (complete s).cfg = s.cfg := rfl
@[simp] theorem complete_phase (s : State) : (complete s).phase = s.phase := rfl
@[simp] theorem complete_cur (s : State) : (complete s).cur = none := rfl
@[simp] theorem complete_queue (s : State) : (complete s).queue = s.queue := rfl
@[simp] theorem complete_idx (s : State) : (complete s).idx = 0#14 := rfl
@[simp] theorem complete_trace (s : State) : (complete s).trace = s.trace := rfl
@[simp] theorem complete_fault (s : State) : (complete s).fault = s.fault := rfl
@[simp] theorem complete_glc (s : State) : (complete s).glc = s.glc := rfl
@[simp] theorem complete_dlc (s : State) : (complete s).dlc = s.dlc := rfl
@[simp] theorem complete_chip (s : State) : (complete s).chip = s.chip := rfl
@[simp] theorem complete_pins (s : State) : (complete s).pins = s.pins := rfl
@[simp] theorem complete_configOrder (s : State) : (complete s).configOrder = s.configOrder := rfl
@[simp] theorem complete_inputs (s : State) : (complete s).inputs = s.inputs := rfl
@[simp] theorem complete_answers (s : State) : (complete s).answers = s.answers := rfl
@[simp] theorem complete_laterAnswer (s : State) : (complete s).laterAnswer = s.laterAnswer := rfl
@[simp] theorem complete_draws (s : State) : (complete s).draws = s.draws := rfl
@[simp] theorem complete_preDraw (s : State) : (complete s).preDraw = s.preDraw := rfl

/-! ## Loading a command's events -/

@[simp] theorem loadEvents_dot (i : Instr) (es : List Event) (s : State) : (loadEvents i es s).dot = s.dot := rfl
@[simp] theorem loadEvents_grey (i : Instr) (es : List Event) (s : State) : (loadEvents i es s).grey = s.grey := rfl
@[simp] theorem loadEvents_first (i : Instr) (es : List Event) (s : State) : (loadEvents i es s).first = s.first := rfl
@[simp] theorem loadEvents_level (i : Instr) (es : List Event) (s : State) : (loadEvents i es s).level = s.level := rfl
@[simp] theorem loadEvents_cfg (i : Instr) (es : List Event) (s : State) : (loadEvents i es s).cfg = s.cfg := rfl
@[simp] theorem loadEvents_phase (i : Instr) (es : List Event) (s : State) : (loadEvents i es s).phase = s.phase := rfl
@[simp] theorem loadEvents_cur (i : Instr) (es : List Event) (s : State) : (loadEvents i es s).cur = if es.isEmpty then none else some (encode i) := rfl
@[simp] theorem loadEvents_queue (i : Instr) (es : List Event) (s : State) : (loadEvents i es s).queue = es := rfl
@[simp] theorem loadEvents_idx (i : Instr) (es : List Event) (s : State) : (loadEvents i es s).idx = 0#14 := rfl
@[simp] theorem loadEvents_trace (i : Instr) (es : List Event) (s : State) : (loadEvents i es s).trace = s.trace := rfl
@[simp] theorem loadEvents_fault (i : Instr) (es : List Event) (s : State) : (loadEvents i es s).fault = s.fault := rfl
@[simp] theorem loadEvents_glc (i : Instr) (es : List Event) (s : State) : (loadEvents i es s).glc = s.glc := rfl
@[simp] theorem loadEvents_dlc (i : Instr) (es : List Event) (s : State) : (loadEvents i es s).dlc = s.dlc := rfl
@[simp] theorem loadEvents_chip (i : Instr) (es : List Event) (s : State) : (loadEvents i es s).chip = s.chip := rfl
@[simp] theorem loadEvents_pins (i : Instr) (es : List Event) (s : State) : (loadEvents i es s).pins = s.pins := rfl
@[simp] theorem loadEvents_configOrder (i : Instr) (es : List Event) (s : State) : (loadEvents i es s).configOrder = s.configOrder := rfl
@[simp] theorem loadEvents_inputs (i : Instr) (es : List Event) (s : State) : (loadEvents i es s).inputs = s.inputs := rfl
@[simp] theorem loadEvents_answers (i : Instr) (es : List Event) (s : State) : (loadEvents i es s).answers = s.answers := rfl
@[simp] theorem loadEvents_laterAnswer (i : Instr) (es : List Event) (s : State) : (loadEvents i es s).laterAnswer = s.laterAnswer := rfl
@[simp] theorem loadEvents_draws (i : Instr) (es : List Event) (s : State) : (loadEvents i es s).draws = s.draws := rfl
@[simp] theorem loadEvents_preDraw (i : Instr) (es : List Event) (s : State) : (loadEvents i es s).preDraw = s.preDraw := rfl

/-! ## A frame that ends early -/

@[simp] theorem loseFrame_dot (s : State) : (loseFrame s).dot = s.dot := by unfold loseFrame; split <;> rfl
@[simp] theorem loseFrame_grey (s : State) : (loseFrame s).grey = s.grey := by unfold loseFrame; split <;> rfl
@[simp] theorem loseFrame_first (s : State) : (loseFrame s).first = s.first := by unfold loseFrame; split <;> rfl
@[simp] theorem loseFrame_level (s : State) : (loseFrame s).level = s.level := by unfold loseFrame; split <;> rfl
@[simp] theorem loseFrame_cfg (s : State) : (loseFrame s).cfg = s.cfg := by unfold loseFrame; split <;> rfl
@[simp] theorem loseFrame_phase (s : State) : (loseFrame s).phase = s.phase := by unfold loseFrame; split <;> rfl
@[simp] theorem loseFrame_cur (s : State) : (loseFrame s).cur = s.cur := by unfold loseFrame; split <;> rfl
@[simp] theorem loseFrame_queue (s : State) : (loseFrame s).queue = s.queue := by unfold loseFrame; split <;> rfl
@[simp] theorem loseFrame_idx (s : State) : (loseFrame s).idx = s.idx := by unfold loseFrame; split <;> rfl
@[simp] theorem loseFrame_trace (s : State) : (loseFrame s).trace = s.trace := by unfold loseFrame; split <;> rfl
@[simp] theorem loseFrame_fault (s : State) : (loseFrame s).fault = s.fault := by unfold loseFrame; split <;> rfl
@[simp] theorem loseFrame_glc (s : State) : (loseFrame s).glc = s.glc := by unfold loseFrame; split <;> rfl
@[simp] theorem loseFrame_dlc (s : State) : (loseFrame s).dlc = s.dlc := by unfold loseFrame; split <;> rfl
@[simp] theorem loseFrame_pins (s : State) : (loseFrame s).pins = s.pins := by unfold loseFrame; split <;> rfl
@[simp] theorem loseFrame_configOrder (s : State) : (loseFrame s).configOrder = s.configOrder := by unfold loseFrame; split <;> rfl
@[simp] theorem loseFrame_inputs (s : State) : (loseFrame s).inputs = s.inputs := by unfold loseFrame; split <;> rfl
@[simp] theorem loseFrame_answers (s : State) : (loseFrame s).answers = s.answers := by unfold loseFrame; split <;> rfl
@[simp] theorem loseFrame_laterAnswer (s : State) : (loseFrame s).laterAnswer = s.laterAnswer := by unfold loseFrame; split <;> rfl
@[simp] theorem loseFrame_preDraw (s : State) : (loseFrame s).preDraw = s.preDraw := by unfold loseFrame; split <;> rfl

@[simp] theorem loseFrame_chip_dcr (s : State) : (loseFrame s).chip.dcr = s.chip.dcr := by unfold loseFrame; split <;> rfl
@[simp] theorem loseFrame_chip_gsl (s : State) : (loseFrame s).chip.gsl = s.chip.gsl := by unfold loseFrame; split <;> rfl
@[simp] theorem loseFrame_chip_gsa (s : State) : (loseFrame s).chip.gsa = s.chip.gsa := by unfold loseFrame; split <;> rfl
@[simp] theorem loseFrame_chip_gscnt (s : State) : (loseFrame s).chip.gscnt = s.chip.gscnt := by unfold loseFrame; split <;> rfl

/-! ## Fault entry -/

@[simp] theorem raiseFault_dot (c : Cause) (cmd : Word) (idx : BitVec 14) (role : Option Role) (s : State) : (raiseFault c cmd idx role s).dot = s.dot := by simp [raiseFault]
@[simp] theorem raiseFault_grey (c : Cause) (cmd : Word) (idx : BitVec 14) (role : Option Role) (s : State) : (raiseFault c cmd idx role s).grey = s.grey := by simp [raiseFault]
@[simp] theorem raiseFault_first (c : Cause) (cmd : Word) (idx : BitVec 14) (role : Option Role) (s : State) : (raiseFault c cmd idx role s).first = s.first := by simp [raiseFault]
@[simp] theorem raiseFault_level (c : Cause) (cmd : Word) (idx : BitVec 14) (role : Option Role) (s : State) : (raiseFault c cmd idx role s).level = s.level := by simp [raiseFault]
@[simp] theorem raiseFault_cfg (c : Cause) (cmd : Word) (idx : BitVec 14) (role : Option Role) (s : State) : (raiseFault c cmd idx role s).cfg = s.cfg := by simp [raiseFault]
@[simp] theorem raiseFault_phase (c : Cause) (cmd : Word) (idx : BitVec 14) (role : Option Role) (s : State) : (raiseFault c cmd idx role s).phase = .fault := by simp [raiseFault]
@[simp] theorem raiseFault_cur (c : Cause) (cmd : Word) (idx : BitVec 14) (role : Option Role) (s : State) : (raiseFault c cmd idx role s).cur = none := by simp [raiseFault]
@[simp] theorem raiseFault_queue (c : Cause) (cmd : Word) (idx : BitVec 14) (role : Option Role) (s : State) : (raiseFault c cmd idx role s).queue = [] := by simp [raiseFault]
@[simp] theorem raiseFault_idx (c : Cause) (cmd : Word) (idx : BitVec 14) (role : Option Role) (s : State) : (raiseFault c cmd idx role s).idx = 0#14 := by simp [raiseFault]
@[simp] theorem raiseFault_trace (c : Cause) (cmd : Word) (idx : BitVec 14) (role : Option Role) (s : State) : (raiseFault c cmd idx role s).trace = s.trace := by simp [raiseFault]
@[simp] theorem raiseFault_fault (c : Cause) (cmd : Word) (idx : BitVec 14) (role : Option Role) (s : State) : (raiseFault c cmd idx role s).fault = ⟨causeCode c, cmd, idx, roleCodeOf role⟩ := by simp [raiseFault]
@[simp] theorem raiseFault_glc (c : Cause) (cmd : Word) (idx : BitVec 14) (role : Option Role) (s : State) : (raiseFault c cmd idx role s).glc = s.glc := by simp [raiseFault]
@[simp] theorem raiseFault_dlc (c : Cause) (cmd : Word) (idx : BitVec 14) (role : Option Role) (s : State) : (raiseFault c cmd idx role s).dlc = s.dlc := by simp [raiseFault]
@[simp] theorem raiseFault_chip (c : Cause) (cmd : Word) (idx : BitVec 14) (role : Option Role) (s : State) : (raiseFault c cmd idx role s).chip = (loseFrame s).chip := by simp [raiseFault]
@[simp] theorem raiseFault_pins (c : Cause) (cmd : Word) (idx : BitVec 14) (role : Option Role) (s : State) : (raiseFault c cmd idx role s).pins = s.pins := by simp [raiseFault]
@[simp] theorem raiseFault_configOrder (c : Cause) (cmd : Word) (idx : BitVec 14) (role : Option Role) (s : State) : (raiseFault c cmd idx role s).configOrder = s.configOrder := by simp [raiseFault]
@[simp] theorem raiseFault_inputs (c : Cause) (cmd : Word) (idx : BitVec 14) (role : Option Role) (s : State) : (raiseFault c cmd idx role s).inputs = s.inputs := by simp [raiseFault]
@[simp] theorem raiseFault_answers (c : Cause) (cmd : Word) (idx : BitVec 14) (role : Option Role) (s : State) : (raiseFault c cmd idx role s).answers = s.answers := by simp [raiseFault]
@[simp] theorem raiseFault_laterAnswer (c : Cause) (cmd : Word) (idx : BitVec 14) (role : Option Role) (s : State) : (raiseFault c cmd idx role s).laterAnswer = s.laterAnswer := by simp [raiseFault]
@[simp] theorem raiseFault_draws (c : Cause) (cmd : Word) (idx : BitVec 14) (role : Option Role) (s : State) : (raiseFault c cmd idx role s).draws = (loseFrame s).draws := by simp [raiseFault]
@[simp] theorem raiseFault_preDraw (c : Cause) (cmd : Word) (idx : BitVec 14) (role : Option Role) (s : State) : (raiseFault c cmd idx role s).preDraw = s.preDraw := by simp [raiseFault]

/-! ## Cancel -/

@[simp] theorem cancelStep_dot (s : State) : (cancelStep s).dot = s.dot := by simp [cancelStep]
@[simp] theorem cancelStep_grey (s : State) : (cancelStep s).grey = s.grey := by simp [cancelStep]
@[simp] theorem cancelStep_first (s : State) : (cancelStep s).first = s.first := by simp [cancelStep]
@[simp] theorem cancelStep_level (s : State) : (cancelStep s).level = s.level := by simp [cancelStep]
@[simp] theorem cancelStep_cfg (s : State) : (cancelStep s).cfg = s.cfg := by simp [cancelStep]
@[simp] theorem cancelStep_phase (s : State) : (cancelStep s).phase = .cancelled := by simp [cancelStep]
@[simp] theorem cancelStep_cur (s : State) : (cancelStep s).cur = none := by simp [cancelStep]
@[simp] theorem cancelStep_queue (s : State) : (cancelStep s).queue = [] := by simp [cancelStep]
@[simp] theorem cancelStep_idx (s : State) : (cancelStep s).idx = 0#14 := by simp [cancelStep]
@[simp] theorem cancelStep_trace (s : State) : (cancelStep s).trace = s.trace := by simp [cancelStep]
@[simp] theorem cancelStep_fault (s : State) : (cancelStep s).fault = s.fault := by simp [cancelStep]
@[simp] theorem cancelStep_glc (s : State) : (cancelStep s).glc = s.glc := by simp [cancelStep]
@[simp] theorem cancelStep_dlc (s : State) : (cancelStep s).dlc = s.dlc := by simp [cancelStep]
@[simp] theorem cancelStep_chip (s : State) : (cancelStep s).chip = (loseFrame s).chip := by simp [cancelStep]
@[simp] theorem cancelStep_pins (s : State) : (cancelStep s).pins = s.pins := by simp [cancelStep]
@[simp] theorem cancelStep_configOrder (s : State) : (cancelStep s).configOrder = s.configOrder := by simp [cancelStep]
@[simp] theorem cancelStep_inputs (s : State) : (cancelStep s).inputs = s.inputs := by simp [cancelStep]
@[simp] theorem cancelStep_answers (s : State) : (cancelStep s).answers = s.answers := by simp [cancelStep]
@[simp] theorem cancelStep_laterAnswer (s : State) : (cancelStep s).laterAnswer = s.laterAnswer := by simp [cancelStep]
@[simp] theorem cancelStep_draws (s : State) : (cancelStep s).draws = (loseFrame s).draws := by simp [cancelStep]
@[simp] theorem cancelStep_preDraw (s : State) : (cancelStep s).preDraw = s.preDraw := by simp [cancelStep]

/-! ## Block reset -/

@[simp] theorem construct_dot (p : RoleFile Nat) (s : State) : (construct p s).dot = State.reset.dot := rfl
@[simp] theorem construct_grey (p : RoleFile Nat) (s : State) : (construct p s).grey = State.reset.grey := rfl
@[simp] theorem construct_first (p : RoleFile Nat) (s : State) : (construct p s).first = State.reset.first := rfl
@[simp] theorem construct_level (p : RoleFile Nat) (s : State) : (construct p s).level = State.reset.level := rfl
@[simp] theorem construct_cfg (p : RoleFile Nat) (s : State) : (construct p s).cfg = State.reset.cfg := rfl
@[simp] theorem construct_phase (p : RoleFile Nat) (s : State) : (construct p s).phase = State.reset.phase := rfl
@[simp] theorem construct_cur (p : RoleFile Nat) (s : State) : (construct p s).cur = State.reset.cur := rfl
@[simp] theorem construct_queue (p : RoleFile Nat) (s : State) : (construct p s).queue = State.reset.queue := rfl
@[simp] theorem construct_idx (p : RoleFile Nat) (s : State) : (construct p s).idx = State.reset.idx := rfl
@[simp] theorem construct_trace (p : RoleFile Nat) (s : State) : (construct p s).trace = State.reset.trace := rfl
@[simp] theorem construct_fault (p : RoleFile Nat) (s : State) : (construct p s).fault = State.reset.fault := rfl
@[simp] theorem construct_glc (p : RoleFile Nat) (s : State) : (construct p s).glc = State.reset.glc := rfl
@[simp] theorem construct_dlc (p : RoleFile Nat) (s : State) : (construct p s).dlc = State.reset.dlc := rfl
@[simp] theorem construct_chip (p : RoleFile Nat) (s : State) : (construct p s).chip = Chip.free s.draws := rfl
@[simp] theorem construct_pins (p : RoleFile Nat) (s : State) : (construct p s).pins = p := rfl
@[simp] theorem construct_configOrder (p : RoleFile Nat) (s : State) : (construct p s).configOrder = s.configOrder := rfl
@[simp] theorem construct_inputs (p : RoleFile Nat) (s : State) : (construct p s).inputs = s.inputs := rfl
@[simp] theorem construct_answers (p : RoleFile Nat) (s : State) : (construct p s).answers = s.answers := rfl
@[simp] theorem construct_laterAnswer (p : RoleFile Nat) (s : State) : (construct p s).laterAnswer = s.laterAnswer := rfl
@[simp] theorem construct_draws (p : RoleFile Nat) (s : State) : (construct p s).draws = s.draws + 1 := rfl
@[simp] theorem construct_preDraw (p : RoleFile Nat) (s : State) : (construct p s).preDraw = s.draws := rfl

/-! ## Register effect of RESET -/

@[simp] theorem postReset_dot (s : State) : (postReset s).dot = Vector.replicate 16 0x3F#6 := rfl
@[simp] theorem postReset_grey (s : State) : (postReset s).grey = Vector.replicate 16 0xFFF#12 := rfl
@[simp] theorem postReset_first (s : State) : (postReset s).first = false := rfl
@[simp] theorem postReset_level (s : State) : (postReset s).level = s.level := rfl
@[simp] theorem postReset_cfg (s : State) : (postReset s).cfg = s.cfg := rfl
@[simp] theorem postReset_phase (s : State) : (postReset s).phase = s.phase := rfl
@[simp] theorem postReset_cur (s : State) : (postReset s).cur = s.cur := rfl
@[simp] theorem postReset_queue (s : State) : (postReset s).queue = s.queue := rfl
@[simp] theorem postReset_idx (s : State) : (postReset s).idx = s.idx := rfl
@[simp] theorem postReset_trace (s : State) : (postReset s).trace = s.trace := rfl
@[simp] theorem postReset_fault (s : State) : (postReset s).fault = s.fault := rfl
@[simp] theorem postReset_glc (s : State) : (postReset s).glc = .idle := rfl
@[simp] theorem postReset_dlc (s : State) : (postReset s).dlc = .idle := rfl
@[simp] theorem postReset_chip (s : State) : (postReset s).chip = s.chip := rfl
@[simp] theorem postReset_pins (s : State) : (postReset s).pins = s.pins := rfl
@[simp] theorem postReset_configOrder (s : State) : (postReset s).configOrder = s.configOrder := rfl
@[simp] theorem postReset_inputs (s : State) : (postReset s).inputs = s.inputs := rfl
@[simp] theorem postReset_answers (s : State) : (postReset s).answers = s.answers := rfl
@[simp] theorem postReset_laterAnswer (s : State) : (postReset s).laterAnswer = s.laterAnswer := rfl
@[simp] theorem postReset_draws (s : State) : (postReset s).draws = s.draws := rfl
@[simp] theorem postReset_preDraw (s : State) : (postReset s).preDraw = s.preDraw := rfl

/-! ## Register effect of INIT -/

@[simp] theorem postInit_dot (s : State) : (postInit s).dot = Vector.replicate 16 0x3F#6 := rfl
@[simp] theorem postInit_grey (s : State) : (postInit s).grey = Vector.replicate 16 0xFFF#12 := rfl
@[simp] theorem postInit_first (s : State) : (postInit s).first = false := rfl
@[simp] theorem postInit_level (s : State) : (postInit s).level = s.level := rfl
@[simp] theorem postInit_cfg (s : State) : (postInit s).cfg = s.cfg := rfl
@[simp] theorem postInit_phase (s : State) : (postInit s).phase = .ready := rfl
@[simp] theorem postInit_cur (s : State) : (postInit s).cur = s.cur := rfl
@[simp] theorem postInit_queue (s : State) : (postInit s).queue = s.queue := rfl
@[simp] theorem postInit_idx (s : State) : (postInit s).idx = s.idx := rfl
@[simp] theorem postInit_trace (s : State) : (postInit s).trace = s.trace := rfl
@[simp] theorem postInit_fault (s : State) : (postInit s).fault = s.fault := rfl
@[simp] theorem postInit_glc (s : State) : (postInit s).glc = .idle := rfl
@[simp] theorem postInit_dlc (s : State) : (postInit s).dlc = .idle := rfl
@[simp] theorem postInit_chip (s : State) : (postInit s).chip = s.chip := rfl
@[simp] theorem postInit_pins (s : State) : (postInit s).pins = s.pins := rfl
@[simp] theorem postInit_configOrder (s : State) : (postInit s).configOrder = s.configOrder := rfl
@[simp] theorem postInit_inputs (s : State) : (postInit s).inputs = s.inputs := rfl
@[simp] theorem postInit_answers (s : State) : (postInit s).answers = s.answers := rfl
@[simp] theorem postInit_laterAnswer (s : State) : (postInit s).laterAnswer = s.laterAnswer := rfl
@[simp] theorem postInit_draws (s : State) : (postInit s).draws = s.draws := rfl
@[simp] theorem postInit_preDraw (s : State) : (postInit s).preDraw = s.preDraw := rfl

/-! ## Register effect of SETDOT -/

@[simp] theorem postSetdot_dot (ch val : Int) (s : State) : (postSetdot ch val s).dot = s.dot.set (slotOf ch).val (dotValue val) := rfl
@[simp] theorem postSetdot_grey (ch val : Int) (s : State) : (postSetdot ch val s).grey = s.grey := rfl
@[simp] theorem postSetdot_first (ch val : Int) (s : State) : (postSetdot ch val s).first = s.first := rfl
@[simp] theorem postSetdot_level (ch val : Int) (s : State) : (postSetdot ch val s).level = s.level := rfl
@[simp] theorem postSetdot_cfg (ch val : Int) (s : State) : (postSetdot ch val s).cfg = s.cfg := rfl
@[simp] theorem postSetdot_phase (ch val : Int) (s : State) : (postSetdot ch val s).phase = s.phase := rfl
@[simp] theorem postSetdot_cur (ch val : Int) (s : State) : (postSetdot ch val s).cur = s.cur := rfl
@[simp] theorem postSetdot_queue (ch val : Int) (s : State) : (postSetdot ch val s).queue = s.queue := rfl
@[simp] theorem postSetdot_idx (ch val : Int) (s : State) : (postSetdot ch val s).idx = s.idx := rfl
@[simp] theorem postSetdot_trace (ch val : Int) (s : State) : (postSetdot ch val s).trace = s.trace := rfl
@[simp] theorem postSetdot_fault (ch val : Int) (s : State) : (postSetdot ch val s).fault = s.fault := rfl
@[simp] theorem postSetdot_glc (ch val : Int) (s : State) : (postSetdot ch val s).glc = s.glc := rfl
@[simp] theorem postSetdot_dlc (ch val : Int) (s : State) : (postSetdot ch val s).dlc = .valuesStaged := rfl
@[simp] theorem postSetdot_chip (ch val : Int) (s : State) : (postSetdot ch val s).chip = s.chip := rfl
@[simp] theorem postSetdot_pins (ch val : Int) (s : State) : (postSetdot ch val s).pins = s.pins := rfl
@[simp] theorem postSetdot_configOrder (ch val : Int) (s : State) : (postSetdot ch val s).configOrder = s.configOrder := rfl
@[simp] theorem postSetdot_inputs (ch val : Int) (s : State) : (postSetdot ch val s).inputs = s.inputs := rfl
@[simp] theorem postSetdot_answers (ch val : Int) (s : State) : (postSetdot ch val s).answers = s.answers := rfl
@[simp] theorem postSetdot_laterAnswer (ch val : Int) (s : State) : (postSetdot ch val s).laterAnswer = s.laterAnswer := rfl
@[simp] theorem postSetdot_draws (ch val : Int) (s : State) : (postSetdot ch val s).draws = s.draws := rfl
@[simp] theorem postSetdot_preDraw (ch val : Int) (s : State) : (postSetdot ch val s).preDraw = s.preDraw := rfl

/-! ## Register effect of SETGREY -/

@[simp] theorem postSetgrey_dot (ch val : Int) (s : State) : (postSetgrey ch val s).dot = s.dot := rfl
@[simp] theorem postSetgrey_grey (ch val : Int) (s : State) : (postSetgrey ch val s).grey = s.grey.set (slotOf ch).val (greyValue val) := rfl
@[simp] theorem postSetgrey_first (ch val : Int) (s : State) : (postSetgrey ch val s).first = s.first := rfl
@[simp] theorem postSetgrey_level (ch val : Int) (s : State) : (postSetgrey ch val s).level = s.level := rfl
@[simp] theorem postSetgrey_cfg (ch val : Int) (s : State) : (postSetgrey ch val s).cfg = s.cfg := rfl
@[simp] theorem postSetgrey_phase (ch val : Int) (s : State) : (postSetgrey ch val s).phase = s.phase := rfl
@[simp] theorem postSetgrey_cur (ch val : Int) (s : State) : (postSetgrey ch val s).cur = s.cur := rfl
@[simp] theorem postSetgrey_queue (ch val : Int) (s : State) : (postSetgrey ch val s).queue = s.queue := rfl
@[simp] theorem postSetgrey_idx (ch val : Int) (s : State) : (postSetgrey ch val s).idx = s.idx := rfl
@[simp] theorem postSetgrey_trace (ch val : Int) (s : State) : (postSetgrey ch val s).trace = s.trace := rfl
@[simp] theorem postSetgrey_fault (ch val : Int) (s : State) : (postSetgrey ch val s).fault = s.fault := rfl
@[simp] theorem postSetgrey_glc (ch val : Int) (s : State) : (postSetgrey ch val s).glc = .valuesStaged := rfl
@[simp] theorem postSetgrey_dlc (ch val : Int) (s : State) : (postSetgrey ch val s).dlc = s.dlc := rfl
@[simp] theorem postSetgrey_chip (ch val : Int) (s : State) : (postSetgrey ch val s).chip = s.chip := rfl
@[simp] theorem postSetgrey_pins (ch val : Int) (s : State) : (postSetgrey ch val s).pins = s.pins := rfl
@[simp] theorem postSetgrey_configOrder (ch val : Int) (s : State) : (postSetgrey ch val s).configOrder = s.configOrder := rfl
@[simp] theorem postSetgrey_inputs (ch val : Int) (s : State) : (postSetgrey ch val s).inputs = s.inputs := rfl
@[simp] theorem postSetgrey_answers (ch val : Int) (s : State) : (postSetgrey ch val s).answers = s.answers := rfl
@[simp] theorem postSetgrey_laterAnswer (ch val : Int) (s : State) : (postSetgrey ch val s).laterAnswer = s.laterAnswer := rfl
@[simp] theorem postSetgrey_draws (ch val : Int) (s : State) : (postSetgrey ch val s).draws = s.draws := rfl
@[simp] theorem postSetgrey_preDraw (ch val : Int) (s : State) : (postSetgrey ch val s).preDraw = s.preDraw := rfl

/-! ## Register effect of WRDOT -/

@[simp] theorem postWrdot_dot (s : State) : (postWrdot s).dot = s.dot := rfl
@[simp] theorem postWrdot_grey (s : State) : (postWrdot s).grey = s.grey := rfl
@[simp] theorem postWrdot_first (s : State) : (postWrdot s).first = s.first := rfl
@[simp] theorem postWrdot_level (s : State) : (postWrdot s).level = s.level := rfl
@[simp] theorem postWrdot_cfg (s : State) : (postWrdot s).cfg = s.cfg := rfl
@[simp] theorem postWrdot_phase (s : State) : (postWrdot s).phase = s.phase := rfl
@[simp] theorem postWrdot_cur (s : State) : (postWrdot s).cur = s.cur := rfl
@[simp] theorem postWrdot_queue (s : State) : (postWrdot s).queue = s.queue := rfl
@[simp] theorem postWrdot_idx (s : State) : (postWrdot s).idx = s.idx := rfl
@[simp] theorem postWrdot_trace (s : State) : (postWrdot s).trace = s.trace := rfl
@[simp] theorem postWrdot_fault (s : State) : (postWrdot s).fault = s.fault := rfl
@[simp] theorem postWrdot_glc (s : State) : (postWrdot s).glc = s.glc := rfl
@[simp] theorem postWrdot_dlc (s : State) : (postWrdot s).dlc = .shiftedNotLatched := rfl
@[simp] theorem postWrdot_chip (s : State) : (postWrdot s).chip = s.chip := rfl
@[simp] theorem postWrdot_pins (s : State) : (postWrdot s).pins = s.pins := rfl
@[simp] theorem postWrdot_configOrder (s : State) : (postWrdot s).configOrder = s.configOrder := rfl
@[simp] theorem postWrdot_inputs (s : State) : (postWrdot s).inputs = s.inputs := rfl
@[simp] theorem postWrdot_answers (s : State) : (postWrdot s).answers = s.answers := rfl
@[simp] theorem postWrdot_laterAnswer (s : State) : (postWrdot s).laterAnswer = s.laterAnswer := rfl
@[simp] theorem postWrdot_draws (s : State) : (postWrdot s).draws = s.draws := rfl
@[simp] theorem postWrdot_preDraw (s : State) : (postWrdot s).preDraw = s.preDraw := rfl

/-! ## Register effect of WRGREY -/

@[simp] theorem postWrgrey_dot (s : State) : (postWrgrey s).dot = s.dot := rfl
@[simp] theorem postWrgrey_grey (s : State) : (postWrgrey s).grey = s.grey := rfl
@[simp] theorem postWrgrey_first (s : State) : (postWrgrey s).first = s.first := rfl
@[simp] theorem postWrgrey_level (s : State) : (postWrgrey s).level = s.level := rfl
@[simp] theorem postWrgrey_cfg (s : State) : (postWrgrey s).cfg = s.cfg := rfl
@[simp] theorem postWrgrey_phase (s : State) : (postWrgrey s).phase = s.phase := rfl
@[simp] theorem postWrgrey_cur (s : State) : (postWrgrey s).cur = s.cur := rfl
@[simp] theorem postWrgrey_queue (s : State) : (postWrgrey s).queue = s.queue := rfl
@[simp] theorem postWrgrey_idx (s : State) : (postWrgrey s).idx = s.idx := rfl
@[simp] theorem postWrgrey_trace (s : State) : (postWrgrey s).trace = s.trace := rfl
@[simp] theorem postWrgrey_fault (s : State) : (postWrgrey s).fault = s.fault := rfl
@[simp] theorem postWrgrey_glc (s : State) : (postWrgrey s).glc = .shiftedNotLatched := rfl
@[simp] theorem postWrgrey_dlc (s : State) : (postWrgrey s).dlc = s.dlc := rfl
@[simp] theorem postWrgrey_chip (s : State) : (postWrgrey s).chip = s.chip := rfl
@[simp] theorem postWrgrey_pins (s : State) : (postWrgrey s).pins = s.pins := rfl
@[simp] theorem postWrgrey_configOrder (s : State) : (postWrgrey s).configOrder = s.configOrder := rfl
@[simp] theorem postWrgrey_inputs (s : State) : (postWrgrey s).inputs = s.inputs := rfl
@[simp] theorem postWrgrey_answers (s : State) : (postWrgrey s).answers = s.answers := rfl
@[simp] theorem postWrgrey_laterAnswer (s : State) : (postWrgrey s).laterAnswer = s.laterAnswer := rfl
@[simp] theorem postWrgrey_draws (s : State) : (postWrgrey s).draws = s.draws := rfl
@[simp] theorem postWrgrey_preDraw (s : State) : (postWrgrey s).preDraw = s.preDraw := rfl

/-! ## Register effect of CLEANUP -/

@[simp] theorem postCleanup_dot (s : State) : (postCleanup s).dot = s.dot := rfl
@[simp] theorem postCleanup_grey (s : State) : (postCleanup s).grey = s.grey := rfl
@[simp] theorem postCleanup_first (s : State) : (postCleanup s).first = s.first := rfl
@[simp] theorem postCleanup_level (s : State) : (postCleanup s).level = s.level := rfl
@[simp] theorem postCleanup_cfg (s : State) : (postCleanup s).cfg = s.cfg := rfl
@[simp] theorem postCleanup_phase (s : State) : (postCleanup s).phase = .released := rfl
@[simp] theorem postCleanup_cur (s : State) : (postCleanup s).cur = s.cur := rfl
@[simp] theorem postCleanup_queue (s : State) : (postCleanup s).queue = s.queue := rfl
@[simp] theorem postCleanup_idx (s : State) : (postCleanup s).idx = s.idx := rfl
@[simp] theorem postCleanup_trace (s : State) : (postCleanup s).trace = s.trace := rfl
@[simp] theorem postCleanup_fault (s : State) : (postCleanup s).fault = s.fault := rfl
@[simp] theorem postCleanup_glc (s : State) : (postCleanup s).glc = s.glc := rfl
@[simp] theorem postCleanup_dlc (s : State) : (postCleanup s).dlc = s.dlc := rfl
@[simp] theorem postCleanup_chip (s : State) : (postCleanup s).chip = s.chip := rfl
@[simp] theorem postCleanup_pins (s : State) : (postCleanup s).pins = s.pins := rfl
@[simp] theorem postCleanup_configOrder (s : State) : (postCleanup s).configOrder = s.configOrder := rfl
@[simp] theorem postCleanup_inputs (s : State) : (postCleanup s).inputs = s.inputs := rfl
@[simp] theorem postCleanup_answers (s : State) : (postCleanup s).answers = s.answers := rfl
@[simp] theorem postCleanup_laterAnswer (s : State) : (postCleanup s).laterAnswer = s.laterAnswer := rfl
@[simp] theorem postCleanup_draws (s : State) : (postCleanup s).draws = s.draws := rfl
@[simp] theorem postCleanup_preDraw (s : State) : (postCleanup s).preDraw = s.preDraw := rfl

end Sys2Proof.Machine
end

