-- ==== Sys2Proof/Laws/Ops.lean ====
section
/-!
SUPPORT. One lemma for each shared operation that says everything it can do; later proofs cite these and do not unfold the
operations.
-/

namespace Sys2Proof.Machine

/-! ## Per-role files -/

@[simp] theorem RoleFile.get_all {α : Type} (v : α) (r : Role) : (RoleFile.all v).get r = v := by
  cases r <;> rfl

@[simp] theorem RoleFile.get_set_same {α : Type} (f : RoleFile α) (r : Role) (v : α) : (f.set r v).get r = v := by
  cases r <;> rfl

theorem RoleFile.get_set_ne {α : Type} (f : RoleFile α) (r q : Role) (v : α) (h : q ≠ r) :
    (f.set r v).get q = f.get q := by
  cases r <;> cases q <;> first | rfl | exact absurd rfl h

theorem RoleFile.ext_get {α : Type} {f g : RoleFile α} (h : ∀ r, f.get r = g.get r) : f = g := by
  obtain ⟨a, b, c, d, e, k⟩ := f
  obtain ⟨a', b', c', d', e', k'⟩ := g
  have h1 := h .blank
  have h2 := h .prog
  have h3 := h .latch
  have h4 := h .gsclk
  have h5 := h .serial
  have h6 := h .clk
  simp only [RoleFile.get] at h1 h2 h3 h4 h5 h6
  simp only [h1, h2, h3, h4, h5, h6]

/-! ## Operands -/

theorem clamp_of_lt {lo hi v : Int} (hlh : lo ≤ hi) (h : v < lo) : clamp lo hi v = lo := by
  unfold clamp; omega

theorem clamp_of_gt {lo hi v : Int} (h : hi < v) : clamp lo hi v = hi := by
  unfold clamp; omega

theorem clamp_of_mem {lo hi v : Int} (h₁ : lo ≤ v) (h₂ : v ≤ hi) : clamp lo hi v = v := by
  unfold clamp; omega

theorem clamp_bounds {lo hi : Int} (v : Int) (hlh : lo ≤ hi) : lo ≤ clamp lo hi v ∧ clamp lo hi v ≤ hi := by
  unfold clamp; omega

theorem dotValue_toNat (val : Int) : ((dotValue val).toNat : Int) = clamp 0 63 val := by
  have h := clamp_bounds (lo := 0) (hi := 63) val (by omega)
  simp only [dotValue, BitVec.toNat_ofInt]
  omega

theorem greyValue_toNat (val : Int) : ((greyValue val).toNat : Int) = clamp 0 4095 val := by
  have h := clamp_bounds (lo := 0) (hi := 4095) val (by omega)
  simp only [greyValue, BitVec.toNat_ofInt]
  omega

theorem slotOf_val (ch : Int) : ((slotOf ch).val : Int) = 15 - clamp 0 15 ch := by
  have h := clamp_bounds (lo := 0) (hi := 15) ch (by omega)
  simp only [slotOf, slotOfChannel]
  omega

/-! ## Event lists -/

theorem shiftValue_length (v w : Nat) : (shiftValue v w).length = 3 * w := by
  induction w with
  | zero => rfl
  | succ b ih => simp only [shiftValue, List.length_cons, ih]; omega

theorem shiftOut_length (vs : List Nat) (w : Nat) : (shiftOut vs w).length = 3 * w * vs.length := by
  induction vs with
  | nil => rfl
  | cons v rest ih => simp only [shiftOut, List.length_append, shiftValue_length, ih, List.length_cons]; ring

theorem shiftOut_append (us vs : List Nat) (w : Nat) : shiftOut (us ++ vs) w = shiftOut us w ++ shiftOut vs w := by
  induction us with
  | nil => rfl
  | cons u rest ih => simp only [List.cons_append, shiftOut, ih, List.append_assoc]

theorem repeatEvents_length (n : Nat) (es : List Event) : (repeatEvents n es).length = n * es.length := by
  induction n with
  | zero => simp [repeatEvents]
  | succ n ih => simp only [repeatEvents, List.length_append, ih]; ring

@[simp] theorem slotValues_length {w : Nat} (f : Vector (BitVec w) 16) : (slotValues f).length = 16 := by
  simp [slotValues]

/-- Only the bits below the width are emitted (40_sequencer.md R108). -/
theorem shiftValue_mod (v w n : Nat) (h : w ≤ n) : shiftValue (v % 2 ^ n) w = shiftValue v w := by
  induction w with
  | zero => rfl
  | succ b ih =>
    simp only [shiftValue, Nat.testBit_mod_two_pow]
    rw [ih (by omega)]
    simp [show b < n by omega]

/-! ## Fault entry and cancel -/

/-- An idle block has no frame to lose. -/
theorem loseFrame_of_idle {s : State} (h : s.queue = []) : loseFrame s = s := by
  simp [loseFrame, State.inFrame, h]

/-- The only things a broken frame changes are SR and the counter of free values. -/
theorem loseFrame_cases (s : State) :
    loseFrame s = s ∨
      (s.inFrame = true ∧
        loseFrame s =
          { s with chip := { s.chip with sr := Config.freeSr s.draws }, draws := s.draws + 1 }) := by
  unfold loseFrame
  split
  · exact .inr ⟨‹_›, rfl⟩
  · exact .inl rfl

/-- Fault entry at an idle block (60_exceptions.md R200). -/
theorem raiseFault_of_idle {s : State} (h : s.queue = []) (c : Cause) (w : Word) (k : BitVec 14) (r : Option Role) :
    raiseFault c w k r s =
      { s with fault := ⟨causeCode c, w, k, roleCodeOf r⟩, queue := [], cur := none, idx := 0#14, phase := .fault } := by
  simp only [raiseFault, loseFrame_of_idle h]

theorem loseFrame_eq (s : State) :
    loseFrame s = { s with chip := (loseFrame s).chip, draws := (loseFrame s).draws } := by
  unfold loseFrame
  split <;> rfl

/-- Of the chip a broken frame moves SR alone, to a free value (60_exceptions.md R233). -/
theorem loseFrame_chip (s : State) :
    (loseFrame s).chip.SameButSr s.chip ∧ (s.inFrame = false → (loseFrame s).chip = s.chip) ∧
      (s.inFrame = true → (loseFrame s).chip.sr = Config.freeSr s.draws) := by
  unfold loseFrame
  split
  · exact ⟨⟨rfl, rfl, rfl, rfl⟩, fun h => by simp_all, fun _ => rfl⟩
  · exact ⟨⟨rfl, rfl, rfl, rfl⟩, fun _ => rfl, fun h => absurd h ‹_›⟩

/-! ## What the host and the chip's outputs show -/

@[simp] theorem portBit_low : portBit .low = 0#1 := rfl
@[simp] theorem portBit_high : portBit .high = 1#1 := rfl

@[simp] theorem portTrace_append (s : State) (q : List Event) :
    ({ s with trace := s.trace ++ q } : State).portTrace = s.portTrace ++ q.map (portCall s.pins) := by
  simp [State.portTrace]

theorem outputsEnabled_of_high {s : State} (h : s.level.blank = .high) : s.outputsEnabled = some false := by
  simp [State.outputsEnabled, h]

theorem outputsEnabled_of_low {s : State} (h : s.level.blank = .low) : s.outputsEnabled = some true := by
  simp [State.outputsEnabled, h]

/-- The output gate is a function of BLANK's level alone. -/
theorem outputsEnabled_congr {s t : State} (h : s.level.blank = t.level.blank) :
    s.outputsEnabled = t.outputsEnabled := by
  simp [State.outputsEnabled, h]

theorem pwmCount_of_pulse {s : State} (hc : s.cur = some (encode .pulse)) (hi : 2 ≤ s.idx.toNat) :
    s.pwmCount = some ((s.idx.toNat - 2) / 2) := by
  simp [State.pwmCount, curIs, hc, hi]

theorem pwmCount_of_no_pulse {s : State} (h : s.cur ≠ some (encode .pulse) ∨ s.idx.toNat < 2) : s.pwmCount = none := by
  simp only [State.pwmCount, curIs, beq_iff_eq]
  exact if_neg fun ⟨hc, hi⟩ => h.elim (fun k => k hc) fun k => absurd hi (Nat.not_le.2 k)

/-- Fault entry at any block (60_exceptions.md R200). -/
theorem raiseFault_eq (c : Cause) (w : Word) (k : BitVec 14) (r : Option Role) (s : State) :
    raiseFault c w k r s =
      { s with
        fault := ⟨causeCode c, w, k, roleCodeOf r⟩
        queue := []
        cur := none
        idx := 0#14
        phase := .fault
        chip := (loseFrame s).chip
        draws := (loseFrame s).draws } := by
  unfold raiseFault
  rw [loseFrame_eq]

/-- The cancel step (40_sequencer.md R107). -/
theorem cancelStep_eq (s : State) :
    cancelStep s =
      { s with
        queue := []
        cur := none
        idx := 0#14
        phase := .cancelled
        chip := (loseFrame s).chip
        draws := (loseFrame s).draws } := by
  unfold cancelStep
  rw [loseFrame_eq]

/-! ## Acceptance -/

/-- Acceptance answers a next state, one of three (40_sequencer.md R101). -/
theorem accept_cases {i : Instr} {post : State → State} {es : List Event} {s t : State}
    (h : accept i post es s = .next t) :
    (admission s.phase i = .accept ∧ t = loadEvents i es (post s)) ∨
      (∃ c, admission s.phase i = .refuse c ∧ t = raiseAtAcceptance c (encode i) s) ∨
      (s.phase = .fault ∧ t = s) := by
  unfold accept at h
  split at h
  · exact .inl ⟨‹_›, by cases h; rfl⟩
  · exact .inr (.inl ⟨_, ‹_›, by cases h; rfl⟩)
  · rename_i hn
    refine .inr (.inr ⟨?_, by cases h; rfl⟩)
    unfold admission at hn
    split at hn
    · cases i <;> simp [admitUninit] at hn
    · cases hn
    · cases i with
      | blank l => cases l <;> simp [admitCancelled] at hn
      | _ => simp [admitCancelled] at hn
    · cases hn
    · assumption

theorem accept_next (i : Instr) (post : State → State) (es : List Event) (s : State) :
    ∃ t, accept i post es s = .next t := by
  unfold accept
  split <;> exact ⟨_, rfl⟩

theorem accept_of_admission {i : Instr} {post : State → State} {es : List Event} {s : State}
    (h : admission s.phase i = .accept) : accept i post es s = .next (loadEvents i es (post s)) := by
  simp only [accept, h]

theorem accept_of_refuse {i : Instr} {post : State → State} {es : List Event} {s : State} {c : Cause}
    (h : admission s.phase i = .refuse c) : accept i post es s = .next (raiseAtAcceptance c (encode i) s) := by
  simp only [accept, h]

/-- Every command is an acceptance (40_sequencer.md R101). -/
theorem exec_eq_accept (i : Instr) (s : State) : ∃ post es, exec i s = accept i post es s := by
  cases i <;> exact ⟨_, _, rfl⟩

/-- No command ends the model's run (60_exceptions.md R200). -/
theorem exec_next (i : Instr) (s : State) : ∃ t, exec i s = .next t := by
  cases i with
  | init => exact accept_next ..
  | reset => exact accept_next ..
  | setdot ch val => exact accept_next ..
  | setgrey ch val => exact accept_next ..
  | wrdot => exact accept_next ..
  | wrgrey => exact accept_next ..
  | pulse => exact accept_next ..
  | blank lvl => exact accept_next ..
  | cleanup => exact accept_next ..

/-! ## Emission -/

/-- Emission at a busy block: the unconfigured role, an OK answer, or a FAIL answer (40_sequencer.md R104, R105). -/
theorem emit_cases {s : State} {e : Event} {rest : List Event} (h : s.queue = e :: rest) :
    (writesUnconfigured s.cfg e = true ∧ emit s = raiseAtEmission .notInitialised e s) ∨
      (writesUnconfigured s.cfg e = false ∧ s.nextAnswer = .ok ∧ emit s = emitOk e rest s.dropAnswer) ∨
      (writesUnconfigured s.cfg e = false ∧ s.nextAnswer = .fail ∧ emit s = emitFail e s.dropAnswer) := by
  simp only [emit, h]
  by_cases hu : writesUnconfigured s.cfg e = true
  · simp [hu]
  · have hu' : writesUnconfigured s.cfg e = false := by simpa using hu
    cases ha : s.nextAnswer <;> simp [hu']

theorem emitOk_next {e x : Event} {xs : List Event} (s : State) :
    emitOk e (x :: xs) s =
      { s with
        cfg := cfgAfter e s.cfg
        level := levelsAfter e s.level
        trace := s.trace ++ [e]
        glc := greyLifeAfter s.cur e (x :: xs) s.glc
        dlc := dotLifeAfter s.cur e s.dlc
        chip := s.chip.observe s.level s.draws e
        draws := s.draws + 1
        queue := x :: xs
        idx := s.idx + 1 } := rfl

theorem emitOk_last {e : Event} (s : State) :
    emitOk e [] s =
      { s with
        cfg := cfgAfter e s.cfg
        level := levelsAfter e s.level
        trace := s.trace ++ [e]
        glc := greyLifeAfter s.cur e [] s.glc
        dlc := dotLifeAfter s.cur e s.dlc
        chip := s.chip.observe s.level s.draws e
        draws := s.draws + 1
        queue := []
        cur := none
        idx := 0#14 } := rfl

/-! ## The step -/

/-- Everything a step can do, in the order of 40_sequencer.md R100. -/
theorem stepOn_cases {h : HostInput} {s t : State} (hs : stepOn h s = .next t) :
    (∃ req p, h.rst = some req ∧ acceptedPins req = some p ∧ t = construct p s) ∨
      (h.rst = none ∧ s.phase = .fault ∧ t = s) ∨
      (h.rst = none ∧ h.cancel = true ∧ s.phase = .ready ∧ t = cancelStep s) ∨
      (h.rst = none ∧ s.phase ≠ .fault ∧ ¬(h.cancel = true ∧ s.phase = .ready) ∧ h.cmdValid = true ∧
        ((s.queue ≠ [] ∧ t = raiseAtAcceptance .overrun h.cmd s) ∨
          (s.queue = [] ∧ (∃ why, decode h.cmd = .illegal why) ∧ t = raiseAtAcceptance .illegalCmd h.cmd s) ∨
          (s.queue = [] ∧ ∃ i, decode h.cmd = .cmd i ∧ exec i s = .next t))) ∨
      (h.rst = none ∧ s.phase ≠ .fault ∧ ¬(h.cancel = true ∧ s.phase = .ready) ∧ h.cmdValid = false ∧
        ((s.queue ≠ [] ∧ t = emit s) ∨ (s.queue = [] ∧ t = s))) := by
  have hb : s.busy = true ↔ s.queue ≠ [] := by simp [State.busy]
  unfold stepOn at hs
  split at hs
  · rename_i req hr
    unfold resetBlock at hs
    split at hs
    · cases hs; exact .inl ⟨_, _, hr, ‹_›, rfl⟩
    · cases hs
  · rename_i hr
    split at hs
    · cases hs; exact .inr (.inl ⟨hr, ‹_›, rfl⟩)
    · rename_i hf
      split at hs
      · rename_i hc
        cases hs; exact .inr (.inr (.inl ⟨hr, hc.1, hc.2, rfl⟩))
      · rename_i hc
        split at hs
        · rename_i hv
          refine .inr (.inr (.inr (.inl ⟨hr, hf, hc, hv, ?_⟩)))
          unfold presentWord at hs
          split at hs
          · cases hs; exact .inl ⟨hb.1 ‹_›, rfl⟩
          · rename_i hq
            have hq' : s.queue = [] := by simpa [hb] using hq
            unfold acceptWord at hs
            split at hs
            · cases hs; exact .inr (.inl ⟨hq', ⟨_, ‹_›⟩, rfl⟩)
            · exact .inr (.inr ⟨hq', _, ‹_›, hs⟩)
        · rename_i hv
          refine .inr (.inr (.inr (.inr ⟨hr, hf, hc, by simpa using hv, ?_⟩)))
          split at hs
          · cases hs; exact .inl ⟨hb.1 ‹_›, rfl⟩
          · rename_i hq
            cases hs; exact .inr ⟨by simpa [hb] using hq, rfl⟩

end Sys2Proof.Machine
end

