-- ==== Sys2Proof/Laws/Lists.lean ====
section
/-!
SUPPORT. What a list of events leaves behind, piece by piece, and the bits of values concatenated into a frame.
-/

namespace Sys2Proof.Machine

/-! ## Configured bits, levels and the allowed order along a list -/

theorem cfgAfterAll_append (a b : List Event) (cfg : RoleFile Bool) :
    cfgAfterAll (a ++ b) cfg = cfgAfterAll b (cfgAfterAll a cfg) := by
  simp [cfgAfterAll]

theorem cfgAfterAll_cons (e : Event) (b : List Event) (cfg : RoleFile Bool) :
    cfgAfterAll (e :: b) cfg = cfgAfterAll b (cfgAfter e cfg) := rfl

theorem levelsAfterAll_append (a b : List Event) (lv : RoleFile LineLevel) :
    levelsAfterAll (a ++ b) lv = levelsAfterAll b (levelsAfterAll a lv) := by
  simp [levelsAfterAll]

theorem levelsAfterAll_cons (e : Event) (b : List Event) (lv : RoleFile LineLevel) :
    levelsAfterAll (e :: b) lv = levelsAfterAll b (levelsAfter e lv) := rfl

theorem queueAllowed_append (a b : List Event) (cfg : RoleFile Bool) (lv : RoleFile LineLevel) :
    queueAllowed cfg lv (a ++ b) =
      (queueAllowed cfg lv a && queueAllowed (cfgAfterAll a cfg) (levelsAfterAll a lv) b) := by
  induction a generalizing cfg lv with
  | nil => rfl
  | cons e r ih =>
    simp only [List.cons_append, queueAllowed, ih, cfgAfterAll, levelsAfterAll, List.foldl_cons, Bool.and_assoc]

/-- Writes configure nothing. -/
theorem cfgAfterAll_of_writes {q : List Event} (h : ∀ e ∈ q, ∃ r l, e = .write r l) (cfg : RoleFile Bool) :
    cfgAfterAll q cfg = cfg := by
  induction q with
  | nil => rfl
  | cons e r ih =>
    obtain ⟨a, l, rfl⟩ := h e (by simp)
    exact ih fun x hx => h x (by simp [hx])

/-- Configure calls drive nothing (40_sequencer.md R104). -/
theorem levelsAfterAll_configure (o : List Role) (lv : RoleFile LineLevel) :
    levelsAfterAll (o.map Event.configure) lv = lv := by
  induction o with
  | nil => rfl
  | cons a b ih => exact ih

/-- SHIFTOUT writes SERIAL and CLK alone (40_sequencer.md R108). -/
theorem shiftValue_writes (v w : Nat) :
    ∀ e ∈ shiftValue v w, ∃ r l, e = .write r l ∧ (r = .serial ∨ r = .clk) := by
  induction w with
  | zero => simp [shiftValue]
  | succ b ih =>
    intro e he
    simp only [shiftValue, List.mem_cons] at he
    rcases he with rfl | rfl | rfl | he
    · exact ⟨_, _, rfl, .inl rfl⟩
    · exact ⟨_, _, rfl, .inr rfl⟩
    · exact ⟨_, _, rfl, .inr rfl⟩
    · exact ih e he

theorem shiftOut_writes (vs : List Nat) (w : Nat) :
    ∀ e ∈ shiftOut vs w, ∃ r l, e = .write r l ∧ (r = .serial ∨ r = .clk) := by
  induction vs with
  | nil => simp [shiftOut]
  | cons v r ih =>
    intro e he
    simp only [shiftOut, List.mem_append] at he
    exact he.elim (shiftValue_writes v w e) (ih e)

/-! ## Frames -/

theorem slotValues_lt {w : Nat} (f : Vector (BitVec w) 16) : ∀ v ∈ slotValues f, v < 2 ^ w := by
  intro v hv
  simp only [slotValues, List.mem_map] at hv
  obtain ⟨a, _, rfl⟩ := hv
  exact a.isLt

theorem slotValues_getD {w : Nat} (f : Vector (BitVec w) 16) (k : Nat) (hk : k < 16) :
    (slotValues f).getD k 0 = f[k].toNat := by
  simp [slotValues, hk]

end Sys2Proof.Machine
end

