-- ==== Sys2Proof/Laws/PerInstr.lean ====
section
/-!
SUPPORT. The per-instruction family EncodedOpcode: the OP field of a command's word is the opcode of 30_encoding.md R71.
-/

namespace Sys2Proof.Laws.EncodedOpcode

/-- `w[3:0]` of the encoded command is its opcode. -/
def Statement (i : Instr) : Prop := opField (encode i) = opcodeOf i

theorem init : Statement .init := opField_encode _
theorem reset : Statement .reset := opField_encode _
theorem setdot (ch val : Int) : Statement (.setdot ch val) := opField_encode _
theorem setgrey (ch val : Int) : Statement (.setgrey ch val) := opField_encode _
theorem wrdot : Statement .wrdot := opField_encode _
theorem wrgrey : Statement .wrgrey := opField_encode _
theorem pulse : Statement .pulse := opField_encode _
theorem blank (lvl : Level) : Statement (.blank lvl) := opField_encode _
theorem cleanup : Statement .cleanup := opField_encode _

end Sys2Proof.Laws.EncodedOpcode
end

