-- ==== Sys2Proof/Laws/Run.lean ====
section
/-!
SUPPORT. Runs of a block whose host is quiet: what one step does, and how a run unfolds step by step.
-/

namespace Sys2Proof.Machine

/-! ## Quiet hosts and good answers -/

theorem HostInput.isQuiet_iff (h : HostInput) :
    h.isQuiet = true ↔ h.rst = none ∧ h.cancel = false ∧ h.cmdValid = false := by
  simp [HostInput.isQuiet, and_assoc]

theorem State.sampled_quiet {s : State} (h : s.hostQuiet = true) : s.sampled.isQuiet = true := by
  unfold State.sampled
  cases hi : s.inputs with
  | nil => rfl
  | cons x xs =>
    have := List.all_eq_true.1 h x (by simp [hi])
    simpa using this

theorem all_tail {α : Type} {p : α → Bool} {l : List α} (h : l.all p = true) : l.tail.all p = true :=
  List.all_eq_true.2 fun x hx => List.all_eq_true.1 h x (List.mem_of_mem_tail hx)

@[simp] theorem State.hostQuiet_dropInput {s : State} (h : s.hostQuiet = true) : s.dropInput.hostQuiet = true :=
  all_tail h

theorem State.answersOk_iff (s : State) :
    s.answersOk = true ↔ s.answers.all (· == .ok) = true ∧ s.laterAnswer = .ok := by
  simp [State.answersOk]

theorem State.nextAnswer_ok {s : State} (h : s.answersOk = true) : s.nextAnswer = .ok := by
  obtain ⟨h₁, h₂⟩ := s.answersOk_iff.1 h
  unfold State.nextAnswer
  cases ha : s.answers with
  | nil => simpa using h₂
  | cons a as =>
    have := List.all_eq_true.1 h₁ a (by simp [ha])
    simpa using this

/-! ## One step -/

/-- The step of a busy block whose host is quiet is an emission (40_sequencer.md R100). -/
theorem step_quiet_busy {s : State} {e : Event} {rest : List Event} (hq : s.hostQuiet = true) (hp : s.phase ≠ .fault)
    (hs : s.queue = e :: rest) : step s = .next (emit s.dropInput) := by
  obtain ⟨h₁, h₂, h₃⟩ := (HostInput.isQuiet_iff _).1 (State.sampled_quiet hq)
  have hb : s.dropInput.busy = true := by simp [State.busy, hs]
  simp [step, stepOn, h₁, h₂, h₃, hp, hb]

/-- The step of an idle block whose host is quiet changes nothing (40_sequencer.md R110). -/
theorem step_quiet_idle {s : State} (hq : s.hostQuiet = true) (hs : s.queue = []) : step s = .next s.dropInput := by
  obtain ⟨h₁, h₂, h₃⟩ := (HostInput.isQuiet_iff _).1 (State.sampled_quiet hq)
  have hb : s.dropInput.busy = false := by simp [State.busy, hs]
  simp [step, stepOn, h₁, h₂, h₃, hb]

/-- The step of a busy block whose host is quiet and whose call is made and answered OK (40_sequencer.md R104). -/
theorem step_quiet_ok {s : State} {e : Event} {rest : List Event} (hq : s.hostQuiet = true) (hp : s.phase ≠ .fault)
    (hs : s.queue = e :: rest) (hu : writesUnconfigured s.cfg e = false) (ha : s.nextAnswer = .ok) :
    step s = .next (emitOk e rest s.dropInput.dropAnswer) := by
  rw [step_quiet_busy hq hp hs]
  have ha' : s.dropInput.nextAnswer = .ok := ha
  simp [emit, hs, hu, ha']

/-! ## Runs -/

@[simp] theorem runSteps_zero (s : State) : runSteps 0 s = .next s := rfl

theorem runSteps_succ_of_next {s t : State} (k : Nat) (h : step s = .next t) :
    runSteps (k + 1) s = runSteps k t := by
  have h' : Sys2Proof.core.step s = .next t := h
  simp only [runSteps, Host.Core.run, h']
  rfl

theorem runSteps_succ_of_refused {s : State} {r : Refusal} (k : Nat) (h : step s = .refused r) :
    runSteps (k + 1) s = .refused r := by
  have h' : Sys2Proof.core.step s = .refused r := h
  simp only [runSteps, Host.Core.run, h']
  rfl

/-- A run of `j + k` steps is a run of `k` from where a run of `j` arrives. -/
theorem runSteps_add {s t : State} {j : Nat} (k : Nat) (h : runSteps j s = .next t) :
    runSteps (j + k) s = runSteps k t := by
  induction j generalizing s with
  | zero =>
    cases h
    rw [Nat.zero_add]
  | succ j ih =>
    cases hs : step s with
    | next u =>
      rw [runSteps_succ_of_next j hs] at h
      rw [show j + 1 + k = j + k + 1 by omega, runSteps_succ_of_next _ hs]
      exact ih h
    | fault r => exact r.casesOn
    | refused r =>
      rw [runSteps_succ_of_refused j hs] at h
      cases h

end Sys2Proof.Machine
end

