-- ==== Sys2Proof/Tests/Slice0.lean ====
section
/-!
SUPPORT. Tests of one step on small states, with results taken from 95_test_vectors.md and the rules, and for every
statement with hypotheses a witness that meets them.
-/

namespace Sys2Proof.Machine.Tests

/-! ## Small states -/

/-- A chip at known contents, so that a test does not meet a free value. -/
def zeroChip : Chip := ⟨0, 0, 0, 0, 0⟩

/-- The constructed block, its chip at known contents. -/
def built : State := { State.reset with chip := zeroChip }

/-- A READY block after its first INIT, its chip at known contents (70_reset_and_hazards.md R254). -/
def ready : State :=
  { built with
    phase := .ready
    first := false
    cfg := RoleFile.all true
    level := ⟨.high, .low, .low, .unknown, .high, .low⟩
    glc := .idle
    dlc := .idle }

/-- A cancelled block. -/
def cancelled : State := { ready with phase := .cancelled }

/-- A released block. -/
def released : State :=
  { ready with phase := .released, cfg := RoleFile.all false, level := RoleFile.all .released }

/-- A faulted block. -/
def faulted : State := { ready with phase := .fault, fault := ⟨1#4, 0xA#64, 0#14, 7#3⟩ }

/-- A block busy with the command of word `w`, its events `q` to come. -/
def busyWith (w : Word) (q : List Event) (s : State) : State := { s with cur := some w, queue := q }

/-- A block whose host presents `h` next. -/
def sampling (h : HostInput) (s : State) : State := { s with inputs := [h] }

/-- One field of the state after a step. -/
def after {α : Type} (f : State → α) (s : State) : Option α := (Outcome.nextState (step s)).map f

/-- One field of the state after a presented word's step. -/
def afterWord {α : Type} (f : State → α) (w : Word) (s : State) : Option α := after f (presentNext w s)

/-! ## WellFormed: an ill-formed term for each check -/

theorem test_channel_below_is_refused : (Instr.setdot (-32769) 0).wellFormed = false := by decide
theorem test_channel_above_is_refused : (Instr.setgrey 32768 0).wellFormed = false := by decide
theorem test_value_below_is_refused : (Instr.setgrey 0 (-2147483649)).wellFormed = false := by decide
theorem test_value_above_is_refused : (Instr.setdot 0 2147483648).wellFormed = false := by decide
theorem test_extreme_operands_are_well_formed : (Instr.setdot (-32768) 2147483647).wellFormed = true := by decide

/-! ## Decoding: a word written out for each constructor (30_encoding.md R70 to R75; 95_test_vectors.md 2.1) -/

theorem test_decode_init : decode 0x0000000000000001#64 = .cmd .init := by decide
theorem test_decode_reset : decode 0x0000000000000002#64 = .cmd .reset := by decide
theorem test_decode_setdot : decode 0x0000000A00140003#64 = .cmd (.setdot 20 10) := by decide
theorem test_decode_setdot_signs : decode 0x7FFFFFFF80000003#64 = .cmd (.setdot (-32768) 2147483647) := by decide
theorem test_decode_setgrey : decode 0x00000FFF00000004#64 = .cmd (.setgrey 0 4095) := by decide
theorem test_decode_setgrey_signs : decode 0x00001388FFFF0004#64 = .cmd (.setgrey (-1) 5000) := by decide
theorem test_decode_wrdot : decode 0x0000000000000005#64 = .cmd .wrdot := by decide
theorem test_decode_wrgrey : decode 0x0000000000000006#64 = .cmd .wrgrey := by decide
theorem test_decode_pulse : decode 0x0000000000000007#64 = .cmd .pulse := by decide
theorem test_decode_blank_low : decode 0x0000000000000008#64 = .cmd (.blank .low) := by decide
theorem test_decode_blank_high : decode 0x0000000000000108#64 = .cmd (.blank .high) := by decide
theorem test_decode_cleanup : decode 0x0000000000000009#64 = .cmd .cleanup := by decide
theorem test_decode_refuses_op_0 : decode 0x0#64 = .illegal .opcode := by decide
theorem test_decode_refuses_op_a : decode 0xA#64 = .illegal .opcode := by decide
theorem test_decode_refuses_op_f : decode 0xF#64 = .illegal .opcode := by decide
theorem test_decode_refuses_rsv0 : decode 0x11#64 = .illegal .reserved := by decide
theorem test_decode_refuses_rsv1 : decode 0x80000000FFFF8004#64 = .illegal .reserved := by decide
theorem test_decode_refuses_setdot_l : decode 0x103#64 = .illegal .unusedField := by decide
theorem test_decode_refuses_blank_ch : decode 0x10008#64 = .illegal .unusedField := by decide
theorem test_decode_refuses_init_val : decode 0x100000001#64 = .illegal .unusedField := by decide
theorem test_encode_setdot : encode (.setdot (-5) (-3)) = 0xFFFFFFFDFFFB0003#64 := by decide
theorem test_encode_setgrey : encode (.setgrey 32767 (-2147483648)) = 0x800000007FFF0004#64 := by decide

/-! ## The assembler (30_encoding.md R81, R82) -/

theorem test_assemble_setdot :
    assembleLine "  SETDOT 20, 10 ; channel clamps".toList = some [.setdot 20 10] := by decide
theorem test_assemble_blank_true : assembleLine "BLANK true".toList = some [.blank .high] := by decide
theorem test_assemble_refresh : assembleLine "REFRESH".toList = some [.wrgrey, .pulse] := by decide
theorem test_assemble_hexadecimal :
    assembleLine "SETGREY -0x1, 0xFFF".toList = some [.setgrey (-1) 4095] := by decide
theorem test_assemble_never_clamps : assembleLine "SETDOT 32768, 0".toList = none := by decide

/-! ## SHIFTOUT (95_test_vectors.md S1, 2.3) -/

theorem test_shiftout_101 :
    shiftOut [5] 3 =
      [.write .serial .high, .write .clk .high, .write .clk .low, .write .serial .low, .write .clk .high,
        .write .clk .low, .write .serial .high, .write .clk .high, .write .clk .low] := by decide

/-! ## The commands -/

theorem test_init_sets_ready : (afterWord (·.phase) 0x1#64 built) = some .ready := by decide
theorem test_init_events :
    (initEvents [.clk, .serial, .gsclk, .latch, .prog, .blank] true).take 7 =
      [.configure .clk, .configure .serial, .configure .gsclk, .configure .latch, .configure .prog,
        .configure .blank, .write .blank .high] := by decide
theorem test_reset_restores_dot :
    (afterWord (·.dot[12]) 0x2#64 { ready with dot := ready.dot.set 12 0#6 }) = some 0x3F#6 := by decide
theorem test_reset_preamble :
    (resetEvents false).take 6 =
      [.write .blank .high, .write .prog .low, .write .latch .low, .write .clk .low, .write .serial .low,
        .write .prog .high] := by decide
theorem test_setdot_clamps_channel :
    (afterWord (fun t => (t.dot[0], t.dot[15])) 0x0000000A00140003#64 ready) = some (10#6, 0x3F#6) := by decide
theorem test_setdot_clamps_value : (afterWord (·.dot[12]) (encode (.setdot 3 64)) ready) = some 63#6 := by decide
theorem test_setgrey_negative_value : (afterWord (·.grey[10]) (encode (.setgrey 5 (-1))) ready) = some 0#12 := by
  decide
theorem test_setgrey_channel_15 : (afterWord (·.grey[0]) (encode (.setgrey 15 0)) ready) = some 0#12 := by decide
theorem test_wrdot_first_value :
    (afterWord (fun t => t.queue.take 10) 0x5#64 { ready with dot := ready.dot.set 0 10#6 }) =
      some [.write .prog .high, .write .serial .low, .write .clk .high, .write .clk .low, .write .serial .low,
        .write .clk .high, .write .clk .low, .write .serial .high, .write .clk .high, .write .clk .low] := by decide
theorem test_wrgrey_first_value :
    (afterWord (fun t => t.queue.take 5) 0x6#64 { ready with grey := ready.grey.set 0 0x800#12 }) =
      some [.write .prog .low, .write .serial .high, .write .clk .high, .write .clk .low, .write .serial .low] := by
  decide
theorem test_pulse_first_events :
    (pulseOf .blank ++ repeatEvents 1 (pulseOf .gsclk)) =
      [.write .blank .high, .write .blank .low, .write .gsclk .high, .write .gsclk .low] := by decide
theorem test_pulse_keeps_values : (afterWord (·.dot[3]) 0x7#64 ready) = some 0x3F#6 := by decide
theorem test_blank_in_cancelled : (afterWord (·.queue) 0x108#64 cancelled) = some [.write .blank .high] := by decide
theorem test_blank_low_in_cancelled_faults :
    (afterWord (·.fault) 0x8#64 cancelled) = some ⟨4#4, 0x8#64, 0#14, 7#3⟩ := by decide
theorem test_cleanup_releases : (afterWord (fun t => (t.phase, t.queue)) 0x9#64 ready) = some (.released, [.teardown]) := by
  decide
theorem test_second_cleanup_faults : (afterWord (·.fault) 0x9#64 released) = some ⟨3#4, 0x9#64, 0#14, 7#3⟩ := by decide

/-! ## Emission, cancel and faults (95_test_vectors.md 2.7) -/

theorem test_failed_write_record :
    (after (fun t => (t.fault, t.level.serial, t.trace))
        { busyWith 0x5#64 [.write .serial .high] ready with idx := 10#14, answers := [.fail] }) =
      some (⟨7#4, 0x5#64, 10#14, 4#3⟩, .unknown, []) := by decide
theorem test_unconfigured_write_record :
    (after (·.fault) (busyWith 0x108#64 [.write .blank .high] { cancelled with cfg := RoleFile.all false })) =
      some ⟨2#4, 0x108#64, 0#14, 0#3⟩ := by decide
theorem test_busy_beats_illegal :
    (afterWord (·.fault) 0xA#64 (busyWith 0x108#64 [.write .blank .high] ready)) =
      some ⟨5#4, 0xA#64, 0#14, 7#3⟩ := by decide
theorem test_illegal_beats_uninit : (afterWord (·.fault) 0xA#64 built) = some ⟨1#4, 0xA#64, 0#14, 7#3⟩ := by decide
theorem test_reset_first_faults : (afterWord (·.fault) 0x2#64 built) = some ⟨2#4, 0x2#64, 0#14, 7#3⟩ := by decide
theorem test_cancel_beats_command :
    (after (fun t => (t.phase, t.queue)) (sampling ⟨none, true, true, 0x7#64⟩ ready)) = some (.cancelled, []) := by
  decide
theorem test_cancel_ignored_in_uninit :
    (after (·.phase) (sampling ⟨none, true, true, 0x1#64⟩ built)) = some .ready := by decide
theorem test_teardown_ok :
    (after (·.level) (busyWith 0x9#64 [.teardown] { ready with phase := .released })) =
      some (RoleFile.all .released) := by decide
theorem test_latch_commits_dot :
    (Chip.observe ⟨.high, .high, .low, .low, .low, .low⟩ 0 (.write .latch .high) ⟨5#192, 0, 0, 0, 0⟩).dcr = 5#96 := by
  decide
theorem test_latch_commits_grey :
    (Chip.observe ⟨.high, .low, .low, .low, .low, .low⟩ 0 (.write .latch .high) ⟨5#192, 0, 0, 0, 0⟩).gsl = 5#192 := by
  decide

/-! ## Invariant states -/

/-- The invariant of a concrete state, clause by clause. -/
theorem inv_of_checks {s : State} (o : s.configOrder = Config.defaultConfigOrder)
    (a : pinsDistinct s.pins = true ∧ (s.cur = none ↔ s.queue = []) ∧ (s.queue = [] → s.idx = 0#14) ∧
      s.idx.toNat + s.queue.length ≤ 8194 ∧ s.idx.toNat ≤ s.trace.length)
    (b : (s.phase ≠ .fault → s.fault = clearRecord) ∧
      (s.phase = .fault → 1 ≤ s.fault.cause.toNat ∧ s.fault.cause.toNat ≤ 8 ∧ s.fault.role ≠ 6#3 ∧ s.queue = []))
    (c : s.phase = .uninit →
      s.first = true ∧ s.queue = [] ∧ s.trace = [] ∧ s.cfg = RoleFile.all false ∧ s.level = RoleFile.all .unknown ∧
        s.dot = Vector.replicate 16 0x3F#6 ∧ s.grey = Vector.replicate 16 0xFFF#12 ∧
        s.glc = .uninitialized ∧ s.dlc = .uninitialized)
    (d : (s.phase = .ready ∨ s.phase = .cancelled ∨ s.phase = .released →
        s.first = false ∧ s.glc ≠ .uninitialized ∧ s.dlc ≠ .uninitialized) ∧
      (s.phase = .ready →
        queueAllowed s.cfg s.level s.queue = true ∧
          settled (cfgAfterAll s.queue s.cfg) (levelsAfterAll s.queue s.level) = true))
    (e : (s.phase = .cancelled → s.queue = [] ∨ s.queue = [.write .blank .high]) ∧
      (s.phase = .released →
        s.queue = [.teardown] ∨ (s.queue = [] ∧ s.level = RoleFile.all .released ∧ s.cfg = RoleFile.all false)) ∧
      s.chip.gscnt ≤ 4096) : s.Inv :=
  ⟨⟨by rw [o]; rfl, fun r => by rw [o]; cases r <;> decide⟩, a.1, a.2.1, a.2.2.1, a.2.2.2.1, a.2.2.2.2, b.1, b.2, c, d.1,
    d.2, e.1, e.2.1, e.2.2⟩

theorem inv_built : built.Inv := inv_of_checks rfl (by decide) (by decide) (by decide) (by decide) (by decide)
theorem inv_ready : ready.Inv := inv_of_checks rfl (by decide) (by decide) (by decide) (by decide) (by decide)

/-- A PULSE at one of its indices. -/
def pulsingAt (k : BitVec 14) : State := { ready with cur := some 0x7#64, idx := k }

/-- A READY block between the two events of a BLANK pulse's list. -/
def readyBusy : State := busyWith 0x7#64 [.write .blank .high, .write .blank .low] ready

theorem inv_readyBusy : readyBusy.Inv := inv_of_checks rfl (by decide) (by decide) (by decide) (by decide) (by decide)

/-- A READY block about to raise CLK. -/
def readyShifting : State := busyWith 0x5#64 [.write .clk .high, .write .clk .low] ready

theorem inv_readyShifting : readyShifting.Inv := inv_of_checks rfl (by decide) (by decide) (by decide) (by decide) (by decide)

/-- A READY block about to raise LATCH. -/
def readyLatching : State := busyWith 0x5#64 [.write .latch .high, .write .latch .low] ready

theorem inv_readyLatching : readyLatching.Inv := inv_of_checks rfl (by decide) (by decide) (by decide) (by decide) (by decide)

/-- A READY block that has pulsed before and has a new frame latched. -/
def readyPulsed : State :=
  { ready with level := ⟨.low, .low, .low, .low, .high, .low⟩, glc := .latchedPendingRefresh }

theorem inv_readyPulsed : readyPulsed.Inv := inv_of_checks rfl (by decide) (by decide) (by decide) (by decide) (by decide)

/-- A READY block inside a frame: one shift made, one to come. -/
def readyInFrame : State :=
  { busyWith 0x5#64 [.write .clk .low, .write .clk .high] ready with idx := 1#14, trace := [.write .clk .high] }

/-- A cancelled block running the recovery BLANK 1. -/
def cancelledBusy : State := busyWith 0x108#64 [.write .blank .high] cancelled

theorem inv_cancelledBusy : cancelledBusy.Inv := inv_of_checks rfl (by decide) (by decide) (by decide) (by decide) (by decide)

theorem readyIdle_ready : ready.ReadyIdle := ⟨inv_ready, rfl, rfl, rfl, rfl⟩
theorem readyIdle_readyPulsed : readyPulsed.ReadyIdle := ⟨inv_readyPulsed, rfl, rfl, rfl, rfl⟩

/-! ## Witnesses: 30_encoding.md -/

/-- Each clause of DecodeByFields, the SETDOT and SETGREY clauses at the ends of CH and VAL. -/
theorem witness_DecodeByFields :
    (0x1#64).toNat = 0x1 ∧ (0x2#64).toNat = 0x2 ∧ (0x7FFFFFFF80000003#64).toNat % 65536 = 0x3 ∧
      (0x800000007FFF0004#64).toNat % 65536 = 0x4 ∧ (0x5#64).toNat = 0x5 ∧ (0x6#64).toNat = 0x6 ∧
      (0x7#64).toNat = 0x7 ∧ (0x8#64).toNat = 0x8 ∧ (0x108#64).toNat = 0x108 ∧ (0x9#64).toNat = 0x9 ∧
      ((0x103#64).toNat ∉ [0x1, 0x2, 0x5, 0x6, 0x7, 0x8, 0x108, 0x9] ∧ (0x103#64).toNat % 65536 ≠ 0x3 ∧
        (0x103#64).toNat % 65536 ≠ 0x4) := by decide
theorem witness_DecodeOfEncode : (Instr.setgrey 32767 (-2147483648)).wellFormed = true := by decide
theorem witness_EncodeOfDecode : decode 0x800000007FFF0004#64 = .cmd (.setgrey 32767 (-2147483648)) := by decide
theorem witness_DecodeSelectsOpcodeRow :
    (⟨"SETDOT", 0x3#64, 0xFFFF#64⟩ : OpcodeRow) ∈ opcodeTable ∧
      (⟨"SETDOT", 0x3#64, 0xFFFF#64⟩ : OpcodeRow).selects 0x0000000A00140003#64 = true ∧
      decode 0x0000000A00140003#64 = .cmd (.setdot 20 10) := by decide
/-- The last slot and its last bit, which is bit 0 of the frame and the last triple's level. -/
theorem witness_DotFrameLayout :
    (wrdotEvents (slotValues (Vector.replicate 16 1#6)))[1 + 3 * 95]? = some (.write .serial .high) ∧
      (dotFrame (Vector.replicate 16 1#6)).getLsbD (95 - (6 * 15 + 5)) = true ∧
      dotField (dotFrame ((Vector.replicate 16 0#6).set 0 10#6)) 15 = 10#6 := by decide
theorem witness_GreyFrameLayout :
    (wrgreyEvents (slotValues (Vector.replicate 16 0x800#12)))[1 + 3 * 0]? = some (.write .serial .high) ∧
      (greyFrame (Vector.replicate 16 1#12)).getLsbD (191 - (12 * 15 + 11)) = true ∧
      greyField (greyFrame ((Vector.replicate 16 0#12).set 0 10#12)) 15 = 10#12 := by decide
theorem witness_AssemblerGivesPresentableCommands :
    assembleLine "SETDOT -5, -3".toList = some [.setdot (-5) (-3)] ∧ Instr.setdot (-5) (-3) ∈ [Instr.setdot (-5) (-3)] := by
  decide

/-- Operands at the ends of their ranges and one past them. -/
theorem witness_AssemblerReadsEachForm :
    parseInt "32767".toList = some 32767 ∧ parseInt "-2147483648".toList = some (-2147483648) ∧
      assembleLine "SETDOT 32767, -2147483648".toList = some [.setdot 32767 (-2147483648)] ∧
      assembleLine "SETGREY 32768, 0".toList = none ∧ assembleLine "SETALLGREY 2147483648".toList = none ∧
      assembleLine "BLANK false".toList = some [.blank .low] := by decide

/-! ## Witnesses: 40_sequencer.md -/

theorem witness_StepRunsDecodedCommand :
    ready.queue = [] ∧ ready.phase ≠ .fault ∧ decode 0x7#64 = .cmd .pulse ∧ (presentNext 0x7#64 ready).queue = [] ∧
      (presentNext 0x7#64 ready).presented 0x7#64 :=
  ⟨rfl, by decide, by decide, rfl, by decide, rfl, by decide, rfl, rfl⟩
theorem witness_IdleStepChangesNothing :
    (sampling HostInput.cancelled released).queue = [] ∧ (sampling HostInput.cancelled released).sampled.rst = none ∧
      (sampling HostInput.cancelled released).sampled.cmdValid = false ∧
      ¬((sampling HostInput.cancelled released).sampled.cancel = true ∧
        (sampling HostInput.cancelled released).phase = .ready) := by decide
theorem witness_CancelStopsReadyBlock :
    ((sampling HostInput.cancelled readyBusy).phase = .ready ∧ (sampling HostInput.cancelled readyBusy).sampled.rst = none ∧
      (sampling HostInput.cancelled readyBusy).sampled.cancel = true ∧
      (sampling HostInput.cancelled readyBusy).inFrame = false ∧
      (sampling HostInput.cancelled readyInFrame).phase = .ready ∧
      (sampling HostInput.cancelled readyInFrame).inFrame = true) ∧
    (sampling HostInput.cancelled built).inputs = [HostInput.cancelled] ∧
      (sampling HostInput.cancelled built).phase ≠ .ready := by decide
theorem witness_AdmissionRefusals :
    (built.queue = [] ∧ built.phase = .uninit ∧ Instr.reset ≠ .init) ∧ (released.queue = [] ∧ released.phase = .released) ∧
      (cancelled.queue = [] ∧ cancelled.phase = .cancelled ∧ Instr.blank .low ≠ .blank .high ∧
        Instr.blank .low ≠ .cleanup) := by decide
/-- The three kinds of event. -/
theorem witness_EmissionAnsweredOk :
    ((busyWith 0x1#64 [.configure .clk] ready).emitting (.configure .clk) [] ∧
      (busyWith 0x1#64 [.configure .clk] ready).nextAnswer = .ok) ∧
    (readyBusy.emitting (.write .blank .high) [.write .blank .low] ∧ readyBusy.cfg.get .blank = true ∧
      readyBusy.nextAnswer = .ok) ∧
    ((busyWith 0x9#64 [.teardown] { ready with phase := .released }).emitting .teardown [] ∧
      (busyWith 0x9#64 [.teardown] { ready with phase := .released }).nextAnswer = .ok) :=
  ⟨⟨⟨rfl, by decide, rfl, by decide, rfl⟩, rfl⟩, ⟨⟨rfl, by decide, rfl, by decide, rfl⟩, rfl, rfl⟩,
    ⟨rfl, by decide, rfl, by decide, rfl⟩, rfl⟩
/-- WRGREY's LATCH HIGH, PULSE's last event from each of its two states, WRDOT's LATCH HIGH. -/
theorem witness_EmissionMovesLifecycles :
    (after (·.glc) (busyWith 0x6#64 [.write .latch .high, .write .latch .low] { ready with glc := .shiftedNotLatched }) =
      some .latchedPendingRefresh) ∧
    (after (·.glc) (busyWith 0x7#64 [.write .gsclk .low] { ready with glc := .latchedPendingRefresh }) =
      some .displayed) ∧
    (after (·.glc) (busyWith 0x7#64 [.write .gsclk .low] ready) = some .displayed) ∧
    (after (·.dlc) (busyWith 0x5#64 [.write .latch .high] { ready with dlc := .shiftedNotLatched }) =
      some .latchedActive) := by decide
theorem witness_EmissionAnsweredFail :
    ((busyWith 0x1#64 [.configure .clk] { ready with answers := [.fail] }).emitting (.configure .clk) [] ∧
      (busyWith 0x1#64 [.configure .clk] { ready with answers := [.fail] }).nextAnswer = .fail) ∧
    ((busyWith 0x5#64 [.write .prog .high] { ready with answers := [.fail] }).emitting (.write .prog .high) [] ∧
      (busyWith 0x5#64 [.write .prog .high] { ready with answers := [.fail] }).cfg.get .prog = true ∧
      (busyWith 0x5#64 [.write .prog .high] { ready with answers := [.fail] }).nextAnswer = .fail) ∧
    ((busyWith 0x9#64 [.teardown] { ready with answers := [.fail] }).emitting .teardown [] ∧
      (busyWith 0x9#64 [.teardown] { ready with answers := [.fail] }).nextAnswer = .fail) ∧
    (({ readyInFrame with answers := [.fail] } : State).emitting (.write .clk .low) [.write .clk .high] ∧
      ({ readyInFrame with answers := [.fail] } : State).nextAnswer = .fail ∧
      ({ readyInFrame with answers := [.fail] } : State).inFrame = true) :=
  ⟨⟨⟨rfl, by decide, rfl, by decide, rfl⟩, rfl⟩, ⟨⟨rfl, by decide, rfl, by decide, rfl⟩, rfl, rfl⟩,
    ⟨⟨rfl, by decide, rfl, by decide, rfl⟩, rfl⟩, ⟨rfl, by decide, rfl, by decide, rfl⟩, rfl, by decide⟩
/-- The last bit of the last value. -/
theorem witness_ShiftoutIndexLaw : 1 ≤ 6 ∧ 11 < 6 * [10, 5].length ∧ (shiftOut [10, 5] 6)[33]? =
    some (.write .serial .high) := by decide
theorem witness_CommandRunsToCompletion :
    readyBusy.Inv ∧ readyBusy.phase = .ready ∧ readyBusy.hostQuiet = true ∧ readyBusy.answersOk = true :=
  ⟨inv_readyBusy, rfl, rfl, rfl⟩
theorem witness_TraceGrowsByHeadOfQueue :
    (after (·.trace) readyBusy = some [.write .blank .high]) ∧ readyBusy.sampled.rst = none := by decide

/-- A configure call, a write at each level, and a teardown. -/
theorem witness_PortCarriesLineAndBit :
    (after (·.portTrace) (busyWith 0x1#64 [.configure .clk] ready)) = some [.configureOutput 5] ∧
      readyBusy.emitting (.write .blank .high) [.write .blank .low] ∧ readyBusy.cfg.get .blank = true ∧
      readyBusy.nextAnswer = .ok ∧ (after (·.portTrace) readyBusy) = some [.write 0 1#1] ∧
      (after (·.portTrace) (busyWith 0x8#64 [.write .blank .low] ready)) = some [.write 0 0#1] ∧
      (after (·.portTrace) (busyWith 0x9#64 [.teardown] { ready with phase := .released })) = some [.teardown] :=
  ⟨by decide, ⟨rfl, by decide, rfl, by decide, rfl⟩, rfl, rfl, by decide, by decide, by decide⟩

/-! ## Witnesses: the commands -/

/-- READY, and each range of CH and VAL at its two ends. -/
theorem witness_SetdotWritesClampedSlot :
    ready.phase = .ready ∧ ((-1 : Int) < 0 ∧ (15 : Int) < 16 ∧ (0 : Int) ≤ 0 ∧ (0 : Int) ≤ 15 ∧ (15 : Int) ≤ 15) ∧
      (slotOf (-1)).val = 15 ∧ (slotOf 16).val = 0 ∧ (slotOf 0).val = 15 ∧ (slotOf 15).val = 0 ∧
      dotValue (-1) = 0#6 ∧ dotValue 64 = 63#6 ∧ dotValue 0 = 0#6 ∧ dotValue 63 = 63#6 := by decide
theorem witness_SetgreyWritesClampedSlot :
    ready.phase = .ready ∧ ((-1 : Int) < 0 ∧ (15 : Int) < 16 ∧ (0 : Int) ≤ 0 ∧ (0 : Int) ≤ 15 ∧ (15 : Int) ≤ 15) ∧
      greyValue (-1) = 0#12 ∧ greyValue 4096 = 4095#12 ∧ greyValue 0 = 0#12 ∧ greyValue 4095 = 4095#12 := by decide
theorem witness_SlotMapIsReversal : 0 ≤ 15 ∧ (slotOfChannel 0).val = 15 ∧ 15 ≤ 15 ∧ (slotOfChannel 15).val = 0 := by
  decide
theorem witness_WrdotShiftsWhatSetdotStored : ready.phase = .ready ∧ 0 < 6 ∧ 5 < 6 := by decide
/-- A later RESET and a first one: FIRST at both values. -/
theorem witness_ResetEffectAndEvents :
    (ready.phase = .ready ∧ ready.first = false) ∧
      ({ ready with first := true } : State).phase = .ready ∧ ({ ready with first := true } : State).first = true := by
  decide
theorem witness_InitEffectAndEvents :
    (built.phase = .uninit ∧ built.configOrder.length = 6 ∧ built.first = true) ∧
      (ready.phase = .ready ∧ ready.configOrder.length = 6 ∧ ready.first = false) := by decide
theorem witness_WrdotEventTable : ready.phase = .ready := rfl
theorem witness_WrgreyEventTable : ready.phase = .ready := rfl
theorem witness_PulseEventTable : ready.phase = .ready ∧ 0 < 4096 ∧ 4095 < 4096 := by decide
/-- The first and the last pulse, at each of its two writes; before the first; WRGREY's last index. -/
theorem witness_PwmCountNumbersThePulse :
    (pulsingAt 2#14).cur = some 0x7#64 ∧ (pulsingAt 2#14).pwmCount = some 0 ∧ (pulsingAt 3#14).pwmCount = some 0 ∧
      (pulsingAt 8192#14).pwmCount = some 4095 ∧ (pulsingAt 8193#14).pwmCount = some 4095 ∧
      (pulsingAt 1#14).pwmCount = none ∧ ({ pulsingAt 578#14 with cur := some 0x6#64 } : State).pwmCount = none := by
  decide
theorem witness_BlankEmitsItsLevel :
    ready.phase = .ready ∧ (cancelled.phase = .cancelled ∧ Level.high = .high) := by decide
theorem witness_CleanupReleases : ready.phase = .ready ∧ cancelled.phase = .cancelled := by decide

/-! ## Witnesses: 60_exceptions.md -/

theorem witness_FaultIsTerminal :
    (presentNext 0x7#64 faulted).phase = .fault ∧ (presentNext 0x7#64 faulted).sampled.rst = none := by decide
theorem witness_IllegalWordFaults :
    (presentNext 0xA#64 built).queue = [] ∧ (presentNext 0xA#64 built).presented 0xA#64 ∧
      (∃ why, decode 0xA#64 = .illegal why) :=
  ⟨rfl, ⟨by decide, rfl, by decide, rfl, rfl⟩, .opcode, by decide⟩
theorem witness_UnconfiguredWriteFaults :
    ({ cancelledBusy with cfg := RoleFile.all false } : State).emitting (.write .blank .high) [] ∧
      ({ cancelledBusy with cfg := RoleFile.all false } : State).cur = some 0x108#64 ∧
      ({ cancelledBusy with cfg := RoleFile.all false } : State).cfg.get .blank = false ∧
      ({ cancelledBusy with cfg := RoleFile.all false } : State).inFrame = false ∧
      ({ readyInFrame with cfg := RoleFile.all false } : State).emitting (.write .clk .low) [.write .clk .high] ∧
      ({ readyInFrame with cfg := RoleFile.all false } : State).cfg.get .clk = false ∧
      ({ readyInFrame with cfg := RoleFile.all false } : State).inFrame = true :=
  ⟨⟨rfl, by decide, rfl, by decide, rfl⟩, rfl, rfl, by decide, ⟨rfl, by decide, rfl, by decide, rfl⟩, rfl, by decide⟩
theorem witness_OverrunFaults :
    (presentNext 0xA#64 readyBusy).queue ≠ [] ∧ (presentNext 0xA#64 readyBusy).presented 0xA#64 ∧
      (presentNext 0xA#64 readyBusy).inFrame = false ∧
      (presentNext 0xA#64 readyInFrame).presented 0xA#64 ∧ (presentNext 0xA#64 readyInFrame).inFrame = true :=
  ⟨by decide, ⟨by decide, rfl, by decide, rfl, rfl⟩, by decide, ⟨by decide, rfl, by decide, rfl, rfl⟩, by decide⟩
/-- The call for the second event fails. -/
theorem witness_FailureIsPrecise :
    ({ readyBusy with answers := [.ok, .fail] } : State).Inv ∧
      ({ readyBusy with answers := [.ok, .fail] } : State).phase = .ready ∧
      ({ readyBusy with answers := [.ok, .fail] } : State).hostQuiet = true ∧
      ({ readyBusy with answers := [.ok, .fail] } : State).idx = 0#14 ∧
      ({ readyBusy with answers := [.ok, .fail] } : State).cur = some 0x7#64 ∧
      ({ readyBusy with answers := [.ok, .fail] } : State).queue[1]? = some (.write .blank .low) ∧
      ({ readyBusy with answers := [.ok, .fail] } : State).answers = List.replicate 1 .ok ++ .fail :: [] :=
  ⟨inv_of_checks rfl (by decide) (by decide) (by decide) (by decide) (by decide), rfl, rfl, rfl, rfl, rfl, rfl⟩
theorem witness_ReadyFaultCauses :
    ready.Inv ∧ ready.phase = .ready ∧ (presentNext 0xA#64 ready).sampled.rst = none ∧
      (afterWord (fun t => (t.phase, t.fault.cause)) 0xA#64 ready) = some (.fault, 1#4) :=
  ⟨inv_ready, rfl, rfl, by decide⟩
theorem witness_CancelledMakesOnlyBlankHigh :
    cancelledBusy.Inv ∧ cancelledBusy.phase = .cancelled ∧ cancelledBusy.sampled.rst = none ∧
      (after (·.trace) cancelledBusy) = some [.write .blank .high] :=
  ⟨inv_cancelledBusy, rfl, rfl, by decide⟩
theorem witness_CancellationContract :
    ready.phase = .ready ∧ ready.cfg.get .blank = true ∧ ready.answersOk = true ∧
      ({ ready with
          inputs := [HostInput.cancelled, HostInput.present 0x108#64, HostInput.quiet, HostInput.present 0x9#64,
            HostInput.quiet] } : State).inputs =
        [HostInput.cancelled, HostInput.present 0x108#64, HostInput.quiet, HostInput.present 0x9#64,
          HostInput.quiet] ++ [] := by decide
/-- BLANK HIGH, BLANK LOW, and a teardown that takes the gate away. -/
theorem witness_OutputsFollowBlank :
    readyBusy.sampled.rst = none ∧ (after (·.trace) readyBusy) = some (readyBusy.trace ++ [.write .blank .high]) ∧
      (after (·.outputsEnabled) readyBusy) = some (some false) ∧
      (after (·.outputsEnabled) (busyWith 0x8#64 [.write .blank .low] ready)) = some (some true) ∧
      (after (·.outputsEnabled) (busyWith 0x9#64 [.teardown] { ready with phase := .released })) = some none := by decide
theorem witness_EdgesComeFromDrivenLines :
    (readyShifting.Inv ∧ (after (·.trace) readyShifting) = some (readyShifting.trace ++ [.write .clk .high])) ∧
      (readyLatching.Inv ∧ (after (·.trace) readyLatching) = some (readyLatching.trace ++ [.write .latch .high])) :=
  ⟨⟨inv_readyShifting, by decide⟩, inv_readyLatching, by decide⟩
theorem witness_WrdotReachesChip : ready.ReadyIdle ∧ 15 < 16 := ⟨readyIdle_ready, by decide⟩
theorem witness_WrgreyReachesChip : ready.ReadyIdle ∧ 15 < 16 := ⟨readyIdle_ready, by decide⟩
/-- GSCLK not yet driven, and GSCLK driven LOW with a frame latched. -/
theorem witness_PulseShowsLatchedGrey :
    (ready.ReadyIdle ∧ ready.level.gsclk = .unknown) ∧
      (readyPulsed.ReadyIdle ∧ readyPulsed.level.gsclk = .low ∧ readyPulsed.glc = .latchedPendingRefresh) :=
  ⟨⟨readyIdle_ready, rfl⟩, readyIdle_readyPulsed, rfl, rfl⟩

/-! ## Witnesses: 10_state.md -/

theorem witness_ValueRegisterWriters :
    (afterWord (fun t => decide (t.dot ≠ ready.dot)) 0x0000000A00140003#64 ready) = some true ∧
      (afterWord (fun t => decide (t.grey ≠ ready.grey)) (encode (.setgrey 5 0)) ready) = some true := by decide
theorem witness_FirstIsClearedOnce :
    (afterWord (·.first) 0x2#64 ready) = some false ∧ ready.first = false ∧
      (afterWord (·.first) 0x1#64 built) = some false ∧ built.first = true := by decide
/-- A step of each of the five kinds. -/
theorem witness_PhaseTransitions :
    (after (·.phase) readyBusy) = some .ready ∧ (afterWord (·.phase) 0x1#64 built) = some .ready ∧
      (after (·.phase) (sampling HostInput.cancelled ready)) = some .cancelled ∧
      (afterWord (·.phase) 0x9#64 cancelled) = some .released ∧ (afterWord (·.phase) 0x2#64 built) = some .fault := by
  decide
theorem witness_FaultRecordWrittenOnce :
    (afterWord (fun t => decide (t.fault ≠ ready.fault)) 0xA#64 ready) = some true := by decide
theorem witness_StatusHidesValues :
    ready.SameButValues { ready with dot := ready.dot.set 3 0#6 } ∧ ready.dot ≠ ready.dot.set 3 0#6 ∧
      (after (·.phase) ready) = some .ready :=
  ⟨⟨rfl, ⟨rfl, rfl, rfl, rfl, rfl⟩, rfl, rfl, rfl, rfl, rfl, rfl, rfl, rfl, rfl, rfl, rfl, rfl, rfl, rfl, rfl, rfl⟩,
    by decide, by decide⟩

/-! ## Witnesses: 70_reset_and_hazards.md and the invariant -/

/-- Lines 10 to 15 for the six roles. -/
def lineOf : Role → Nat
  | .blank => 10
  | .prog => 11
  | .latch => 12
  | .gsclk => 13
  | .serial => 14
  | .clk => 15

theorem witness_BlockResetConstructs :
    (sampling ⟨some ⟨some 10, some 11, some 12, some 13, some 14, some 15⟩, true, true, 0x1#64⟩ faulted).sampled.rst =
        some ⟨some 10, some 11, some 12, some 13, some 14, some 15⟩ ∧
      BindsAllDistinct ⟨some 10, some 11, some 12, some 13, some 14, some 15⟩ lineOf :=
  ⟨rfl, fun r => by cases r <;> rfl, fun r q h => by cases r <;> cases q <;> first | rfl | cases h⟩
/-- One line for two roles, and a role without a line. -/
theorem witness_OnlyBadConstructionIsRefused :
    acceptedPins ⟨some 10, some 10, some 12, some 13, some 14, some 15⟩ = none ∧
      acceptedPins ⟨some 10, some 11, some 12, some 13, some 14, none⟩ = none ∧
      acceptedPins ⟨some 10, some 11, some 12, some 13, some 14, some 15⟩ = some ⟨10, 11, 12, 13, 14, 15⟩ := by decide
theorem witness_StateAfterFirstInit :
    built.Inv ∧ built.phase = .uninit ∧ built.hostQuiet = true ∧ built.answersOk = true :=
  ⟨inv_built, rfl, rfl, rfl⟩
theorem witness_EventCounts :
    (ready.configOrder.length = 6 ∧ ready.phase = .ready) ∧ (built.configOrder.length = 6 ∧ built.phase = .uninit) := by
  decide
theorem witness_StepKeepsInvariant :
    readyBusy.Inv ∧ (after (·.trace) readyBusy) = some [.write .blank .high] := ⟨inv_readyBusy, by decide⟩

end Sys2Proof.Machine.Tests
end

/-!
# Commands, emission and the step, said once

The register effect and the events of each command as functions of the command, the fields of the state after an event
answered OK, and what a step without block reset does to the registers.
-/

namespace Sys2Proof.Machine

/-! ## The register effect and the events of a command -/

/-- `post(i, S)` (40_sequencer.md R101); `exec_eq_accept_commandEvents` ties it to `exec`. -/
def commandPost : Instr → State → State
  | .init => postInit
  | .reset => postReset
  | .setdot ch val => postSetdot ch val
  | .setgrey ch val => postSetgrey ch val
  | .wrdot => postWrdot
  | .wrgrey => postWrgrey
  | .pulse => id
  | .blank _ => id
  | .cleanup => postCleanup

/-- `events(i, S)` (40_sequencer.md R101); `exec_eq_accept_commandEvents` ties it to `exec`. -/
def commandEvents : Instr → State → List Event
  | .init, s => initEvents s.configOrder s.first
  | .reset, s => resetEvents s.first
  | .setdot _ _, _ => []
  | .setgrey _ _, _ => []
  | .wrdot, s => wrdotEvents (slotValues s.dot)
  | .wrgrey, s => wrgreyEvents (slotValues s.grey)
  | .pulse, _ => pulseEvents
  | .blank lvl, _ => [.write .blank lvl]
  | .cleanup, _ => [.teardown]

/-- Every command is the acceptance of its register effect and its events (40_sequencer.md R101). -/
theorem exec_eq_accept_commandEvents (i : Instr) (s : State) :
    exec i s = accept i (commandPost i) (commandEvents i s) s := by
  cases i <;> rfl

/-- The commands a phase accepts: the `accept` entries of the table of 40_sequencer.md R103. -/
theorem admission_eq_accept_iff (p : Phase) (i : Instr) :
    admission p i = .accept ↔
      (p = .uninit ∧ i = .init) ∨ p = .ready ∨ (p = .cancelled ∧ (i = .blank .high ∨ i = .cleanup)) := by
  cases p with
  | uninit => cases i <;> simp [admission, admitUninit]
  | ready => simp [admission]
  | cancelled =>
    cases i with
    | blank lvl => cases lvl <;> simp [admission, admitCancelled]
    | _ => simp [admission, admitCancelled]
  | released => simp [admission]
  | fault => simp [admission]

/-- The phase after acceptance (10_state.md R26). -/
theorem commandPost_phase (i : Instr) (s : State) :
    (commandPost i s).phase = if i = .init then .ready else if i = .cleanup then .released else s.phase := by
  cases i <;> rfl

/-! No command's register effect touches the lines, the sequencer's history, the fault record, the chip or the
parameters. -/

@[simp] theorem commandPost_level (i : Instr) (s : State) : (commandPost i s).level = s.level := by cases i <;> rfl
@[simp] theorem commandPost_cfg (i : Instr) (s : State) : (commandPost i s).cfg = s.cfg := by cases i <;> rfl
@[simp] theorem commandPost_trace (i : Instr) (s : State) : (commandPost i s).trace = s.trace := by cases i <;> rfl
@[simp] theorem commandPost_fault (i : Instr) (s : State) : (commandPost i s).fault = s.fault := by cases i <;> rfl
@[simp] theorem commandPost_chip (i : Instr) (s : State) : (commandPost i s).chip = s.chip := by cases i <;> rfl
@[simp] theorem commandPost_pins (i : Instr) (s : State) : (commandPost i s).pins = s.pins := by cases i <;> rfl
@[simp] theorem commandPost_configOrder (i : Instr) (s : State) :
    (commandPost i s).configOrder = s.configOrder := by cases i <;> rfl

/-- What `exec` can answer, in terms of the command's own effect and events (40_sequencer.md R101, R103). -/
theorem exec_cases {i : Instr} {s t : State} (h : exec i s = .next t) :
    (admission s.phase i = .accept ∧ t = loadEvents i (commandEvents i s) (commandPost i s)) ∨
      (∃ c, t = raiseAtAcceptance c (encode i) s) ∨ (s.phase = .fault ∧ t = s) := by
  rw [exec_eq_accept_commandEvents] at h
  obtain hacc | ⟨c, -, rfl⟩ | hf := accept_cases h
  · exact .inl hacc
  · exact .inr (.inl ⟨c, rfl⟩)
  · exact .inr (.inr hf)

/-! ## The state after an event answered OK -/

section EmitOk

variable (e : Event) (rest : List Event) (s : State)

@[simp] theorem emitOk_dot : (emitOk e rest s).dot = s.dot := by cases rest <;> rfl
@[simp] theorem emitOk_grey : (emitOk e rest s).grey = s.grey := by cases rest <;> rfl
@[simp] theorem emitOk_first : (emitOk e rest s).first = s.first := by cases rest <;> rfl
@[simp] theorem emitOk_level : (emitOk e rest s).level = levelsAfter e s.level := by cases rest <;> rfl
@[simp] theorem emitOk_cfg : (emitOk e rest s).cfg = cfgAfter e s.cfg := by cases rest <;> rfl
@[simp] theorem emitOk_phase : (emitOk e rest s).phase = s.phase := by cases rest <;> rfl
@[simp] theorem emitOk_cur : (emitOk e rest s).cur = if rest = [] then none else s.cur := by cases rest <;> rfl
@[simp] theorem emitOk_queue : (emitOk e rest s).queue = rest := by cases rest <;> rfl
@[simp] theorem emitOk_idx : (emitOk e rest s).idx = if rest = [] then 0#14 else s.idx + 1 := by cases rest <;> rfl
@[simp] theorem emitOk_trace : (emitOk e rest s).trace = s.trace ++ [e] := by cases rest <;> rfl
@[simp] theorem emitOk_fault : (emitOk e rest s).fault = s.fault := by cases rest <;> rfl
@[simp] theorem emitOk_glc : (emitOk e rest s).glc = greyLifeAfter s.cur e rest s.glc := by cases rest <;> rfl
@[simp] theorem emitOk_dlc : (emitOk e rest s).dlc = dotLifeAfter s.cur e s.dlc := by cases rest <;> rfl
@[simp] theorem emitOk_chip : (emitOk e rest s).chip = s.chip.observe s.level s.draws e := by cases rest <;> rfl
@[simp] theorem emitOk_pins : (emitOk e rest s).pins = s.pins := by cases rest <;> rfl
@[simp] theorem emitOk_configOrder : (emitOk e rest s).configOrder = s.configOrder := by cases rest <;> rfl
@[simp] theorem emitOk_inputs : (emitOk e rest s).inputs = s.inputs := by cases rest <;> rfl
@[simp] theorem emitOk_answers : (emitOk e rest s).answers = s.answers := by cases rest <;> rfl
@[simp] theorem emitOk_laterAnswer : (emitOk e rest s).laterAnswer = s.laterAnswer := by cases rest <;> rfl
@[simp] theorem emitOk_draws : (emitOk e rest s).draws = s.draws + 1 := by cases rest <;> rfl
@[simp] theorem emitOk_preDraw : (emitOk e rest s).preDraw = s.preDraw := by cases rest <;> rfl

end EmitOk

/-- The unconfigured-role check passes when every write addresses a configured role (40_sequencer.md R104). -/
theorem writesUnconfigured_eq_false {cfg : RoleFile Bool} {e : Event}
    (h : ∀ r lv, e = .write r lv → cfg.get r = true) : writesUnconfigured cfg e = false := by
  cases e with
  | write r lv => simp [writesUnconfigured, h r lv rfl]
  | configure r => rfl
  | teardown => rfl

/-- The step that emits an event to a configured role and has it answered OK (40_sequencer.md R100, R104). -/
theorem step_of_emitting_ok {s : State} {e : Event} {rest : List Event} (h : s.emitting e rest)
    (hcfg : ∀ r lv, e = .write r lv → s.cfg.get r = true) (hans : s.nextAnswer = .ok) :
    step s = .next (emitOk e rest s.dropInput.dropAnswer) := by
  obtain ⟨hq, hp, hr, hc, hv⟩ := h
  have hans' : s.dropInput.nextAnswer = .ok := hans
  simp [step, stepOn, hr, hp, hc, hv, State.busy, emit, hq, writesUnconfigured_eq_false hcfg, hans']

/-! ## What a step does to the registers -/

/-- The registers only an accepted command can write (10_state.md R22, R23). -/
def State.SameRegisters (t s : State) : Prop := t.dot = s.dot ∧ t.grey = s.grey ∧ t.first = s.first

/-- How PHASE and the fault record can move when no command is accepted: not at all, by a cancel, or by fault entry
(10_state.md R26, R31). -/
def State.PhaseMove (s t : State) : Prop :=
  (t.phase = s.phase ∧ t.fault = s.fault) ∨
    (s.phase = .ready ∧ t.phase = .cancelled ∧ s.sampled.cancel = true ∧ t.fault = s.fault) ∨
    (s.phase ≠ .fault ∧ t.phase = .fault)

/-- Emission writes no register, and keeps PHASE and the record unless it enters FAULT (40_sequencer.md R104, R105). -/
theorem emit_registers {s : State} (hq : s.queue ≠ []) :
    (emit s).SameRegisters s ∧ (((emit s).phase = s.phase ∧ (emit s).fault = s.fault) ∨ (emit s).phase = .fault) := by
  obtain ⟨e, rest, hq⟩ := List.exists_cons_of_ne_nil hq
  obtain ⟨-, h⟩ | ⟨-, -, h⟩ | ⟨-, -, h⟩ := emit_cases hq
  · simp [h, raiseAtEmission, State.SameRegisters]
  · simp [h, State.SameRegisters]
  · simp [h, emitFail, raiseAtEmission, State.SameRegisters]

/-- A step without block reset accepts a command, or writes no register and moves PHASE by cancel or fault alone. -/
theorem step_accepts_or_keeps_registers {s t : State} (hs : step s = .next t) (hr : s.sampled.rst = none) :
    (∃ i, s.sampled.cmdValid = true ∧ decode s.sampled.cmd = .cmd i ∧ admission s.phase i = .accept ∧
        t = loadEvents i (commandEvents i s.dropInput) (commandPost i s.dropInput)) ∨
      (t.SameRegisters s ∧ s.PhaseMove t) := by
  obtain ⟨req, p, h, -, -⟩ | ⟨-, -, rfl⟩ | ⟨-, hc, hp, rfl⟩ | ⟨-, hp, -, hv, hw⟩ | ⟨-, hp, -, -, he⟩ :=
    stepOn_cases hs
  · simp [hr] at h
  · exact .inr ⟨⟨rfl, rfl, rfl⟩, .inl ⟨rfl, rfl⟩⟩
  · exact .inr ⟨by simp [State.SameRegisters], .inr (.inl ⟨hp, by simp [hc]⟩)⟩
  · have raised (c : Cause) (w : Word) : (raiseAtAcceptance c w s.dropInput).SameRegisters s ∧
        s.PhaseMove (raiseAtAcceptance c w s.dropInput) :=
      ⟨by simp [raiseAtAcceptance, State.SameRegisters], .inr (.inr ⟨hp, by simp [raiseAtAcceptance]⟩)⟩
    obtain ⟨-, rfl⟩ | ⟨-, -, rfl⟩ | ⟨-, i, hd, hx⟩ := hw
    · exact .inr (raised _ _)
    · exact .inr (raised _ _)
    · obtain ⟨ha, rfl⟩ | ⟨c, rfl⟩ | ⟨hf, -⟩ := exec_cases hx
      · exact .inl ⟨i, hv, hd, ha, rfl⟩
      · exact .inr (raised _ _)
      · exact absurd hf hp
  · obtain ⟨hq, rfl⟩ | ⟨-, rfl⟩ := he
    · obtain ⟨hregs, hkeep | hfault⟩ := emit_registers hq
      · exact .inr ⟨hregs, .inl hkeep⟩
      · exact .inr ⟨hregs, .inr (.inr ⟨hp, hfault⟩)⟩
    · exact .inr ⟨⟨rfl, rfl, rfl⟩, .inl ⟨rfl, rfl⟩⟩

end Sys2Proof.Machine

/-!
# The order of transitions along a command's events

`Leads lv q lv'`: with all six roles configured, the events `q` keep the order of transitions from the levels `lv` and
end at the levels `lv'` (70_reset_and_hazards.md R256). Each list of a command is built from pieces that lead from one
file of levels to the next.
-/

namespace Sys2Proof.Machine

/-- All six roles configured. -/
abbrev allConfigured : RoleFile Bool := RoleFile.all true

/-- The events `q` keep the order of transitions from `lv` and end at `lv'`, all roles being configured throughout. -/
structure Leads (lv : RoleFile LineLevel) (q : List Event) (lv' : RoleFile LineLevel) : Prop where
  allowed : queueAllowed allConfigured lv q = true
  cfg : cfgAfterAll q allConfigured = allConfigured
  levels : levelsAfterAll q lv = lv'

theorem Leads.nil (lv : RoleFile LineLevel) : Leads lv [] lv := ⟨rfl, rfl, rfl⟩

theorem Leads.append {a b c : RoleFile LineLevel} {p q : List Event} (hp : Leads a p b) (hq : Leads b q c) :
    Leads a (p ++ q) c where
  allowed := by rw [queueAllowed_append, hp.allowed, hp.cfg, hp.levels, hq.allowed]; rfl
  cfg := by rw [cfgAfterAll_append, hp.cfg, hq.cfg]
  levels := by rw [levelsAfterAll_append, hp.levels, hq.levels]

/-- One triple of SHIFTOUT (40_sequencer.md R108): CLK is LOW before and after, SERIAL is driven. -/
theorem leads_shiftTriple (l : Level) {lv : RoleFile LineLevel} (hclk : lv.clk = .low) :
    Leads lv [.write .serial l, .write .clk .high, .write .clk .low] { lv with serial := lineLevelOf l } := by
  obtain ⟨b, p, la, g, se, c⟩ := lv
  cases hclk
  cases l <;> exact ⟨rfl, rfl, rfl⟩

theorem driven_lineLevelOf (l : Level) : (lineLevelOf l).driven = true := by cases l <;> rfl

/-- Shifting one value moves SERIAL alone, from driven to driven. -/
theorem leads_shiftValue (v w : Nat) {lv : RoleFile LineLevel} (hclk : lv.clk = .low)
    (hser : lv.serial.driven = true) :
    ∃ x, x.driven = true ∧ Leads lv (shiftValue v w) { lv with serial := x } := by
  induction w generalizing lv with
  | zero => exact ⟨lv.serial, hser, Leads.nil lv⟩
  | succ b ih =>
    obtain ⟨x, hx, hrest⟩ :=
      ih (lv := { lv with serial := lineLevelOf (levelOfBit (v.testBit b)) }) hclk (driven_lineLevelOf _)
    exact ⟨x, hx, (leads_shiftTriple _ hclk).append hrest⟩

/-- SHIFTOUT moves SERIAL alone, from driven to driven (40_sequencer.md R108). -/
theorem leads_shiftOut (vs : List Nat) (w : Nat) {lv : RoleFile LineLevel} (hclk : lv.clk = .low)
    (hser : lv.serial.driven = true) :
    ∃ x, x.driven = true ∧ Leads lv (shiftOut vs w) { lv with serial := x } := by
  induction vs generalizing lv with
  | nil => exact ⟨lv.serial, hser, Leads.nil lv⟩
  | cons v rest ih =>
    obtain ⟨x, hx, hv⟩ := leads_shiftValue v w hclk hser
    obtain ⟨y, hy, hrest⟩ := ih (lv := { lv with serial := x }) hclk hx
    exact ⟨y, hy, hv.append hrest⟩

/-- WRDOT's and WRGREY's events, PROG at `l` (43_serial_writes.md R150, R151, R155). -/
theorem leads_latchedFrame (l : Level) (vs : List Nat) (w : Nat) {lv : RoleFile LineLevel} (hclk : lv.clk = .low)
    (hlatch : lv.latch = .low) (hser : lv.serial.driven = true) :
    ∃ x, x.driven = true ∧
      Leads lv ([.write .prog l] ++ shiftOut vs w ++ pulseOf .latch)
        { lv with prog := lineLevelOf l, serial := x } := by
  have hprog : Leads lv [.write .prog l] { lv with prog := lineLevelOf l } := by
    cases l <;> exact ⟨rfl, rfl, rfl⟩
  obtain ⟨x, hx, hshift⟩ := leads_shiftOut vs w (lv := { lv with prog := lineLevelOf l }) hclk hser
  refine ⟨x, hx, (hprog.append hshift).append ?_⟩
  obtain ⟨b, p, la, g, se, c⟩ := lv
  cases hlatch
  cases l <;> exact ⟨rfl, rfl, rfl⟩

/-- RESET's events lead to settled levels from any levels (41_init_reset.md R121, R122). -/
theorem leads_resetEvents (first : Bool) (lv : RoleFile LineLevel) :
    ∃ x, x.driven = true ∧ Leads lv (resetEvents first) ⟨.high, .low, .low, lv.gsclk, x, .low⟩ := by
  have hpre : Leads lv preamble ⟨.high, .low, .low, lv.gsclk, .low, .low⟩ := ⟨rfl, rfl, rfl⟩
  obtain ⟨x, hx, hdot⟩ := leads_latchedFrame .high defaultDotValues 6
    (lv := ⟨.high, .low, .low, lv.gsclk, .low, .low⟩) rfl rfl rfl
  obtain ⟨y, hy, hgrey⟩ := leads_latchedFrame .low defaultGreyValues 12
    (lv := ⟨.high, .high, .low, lv.gsclk, x, .low⟩) rfl rfl hx
  refine ⟨y, hy, ((hpre.append hdot).append hgrey).append ?_⟩
  cases first with
  | false => exact Leads.nil _
  | true =>
    cases y with
    | low => exact ⟨rfl, rfl, rfl⟩
    | high => exact ⟨rfl, rfl, rfl⟩
    | unknown => cases hy
    | released => cases hy

/-- Grayscale pulses with BLANK LOW (44_pwm_blank.md R170). -/
theorem leads_gsclkPulses (n : Nat) {lv : RoleFile LineLevel} (hblank : lv.blank = .low) (hgs : lv.gsclk = .low) :
    Leads lv (repeatEvents n (pulseOf .gsclk)) lv := by
  induction n with
  | zero => exact Leads.nil lv
  | succ n ih =>
    refine Leads.append ?_ ih
    obtain ⟨b, p, la, g, se, c⟩ := lv
    cases hblank
    cases hgs
    exact ⟨rfl, rfl, rfl⟩

/-- A BLANK pulse and grayscale pulses (44_pwm_blank.md R170); the first may start from a GSCLK not yet written. -/
theorem leads_blankPulse_gsclkPulses (n : Nat) {lv : RoleFile LineLevel}
    (hgs : lv.gsclk = .low ∨ lv.gsclk = .unknown) :
    Leads lv (pulseOf .blank ++ repeatEvents (n + 1) (pulseOf .gsclk)) { lv with blank := .low, gsclk := .low } := by
  have hfirst : Leads lv (pulseOf .blank ++ pulseOf .gsclk) { lv with blank := .low, gsclk := .low } := by
    obtain ⟨b, p, la, g, se, c⟩ := lv
    obtain rfl | rfl := hgs <;> exact ⟨rfl, rfl, rfl⟩
  exact hfirst.append (leads_gsclkPulses n rfl rfl)

/-- PULSE's events (44_pwm_blank.md R170). -/
theorem leads_pulseEvents {lv : RoleFile LineLevel} (hgs : lv.gsclk = .low ∨ lv.gsclk = .unknown) :
    Leads lv pulseEvents { lv with blank := .low, gsclk := .low } :=
  leads_blankPulse_gsclkPulses 4095 hgs

/-! ## Configure calls -/

theorem queueAllowed_configure (order : List Role) (cfg : RoleFile Bool) (lv : RoleFile LineLevel) :
    queueAllowed cfg lv (order.map Event.configure) = true := by
  induction order generalizing cfg with
  | nil => rfl
  | cons r rest ih => exact ih _

theorem get_cfgAfterAll_configure (order : List Role) (cfg : RoleFile Bool) (r : Role) :
    (cfgAfterAll (order.map Event.configure) cfg).get r = (decide (r ∈ order) || cfg.get r) := by
  induction order generalizing cfg with
  | nil => simp [cfgAfterAll]
  | cons q rest ih =>
    rw [List.map_cons, cfgAfterAll_cons, ih]
    by_cases h : r = q
    · simp [cfgAfter, h]
    · simp [cfgAfter, h, RoleFile.get_set_ne]

/-- INIT's configure calls configure every role (41_init_reset.md R120). -/
theorem cfgAfterAll_configure_complete {order : List Role} (h : ∀ r, r ∈ order) (cfg : RoleFile Bool) :
    cfgAfterAll (order.map Event.configure) cfg = allConfigured :=
  RoleFile.ext_get fun r => by simp [get_cfgAfterAll_configure, h r]

/-! ## Settled levels -/

theorem settled_iff (cfg : RoleFile Bool) (lv : RoleFile LineLevel) :
    settled cfg lv = true ↔
      cfg = allConfigured ∧ lv.clk = .low ∧ lv.latch = .low ∧ lv.blank.driven = true ∧ lv.prog.driven = true ∧
        lv.serial.driven = true ∧ (lv.gsclk = .low ∨ lv.gsclk = .unknown) := by
  simp [settled, and_assoc]

/-- The events `q` keep the order of transitions and leave the lines settled: the READY clause of `State.Inv`. -/
def Settles (cfg : RoleFile Bool) (lv : RoleFile LineLevel) (q : List Event) : Prop :=
  queueAllowed cfg lv q = true ∧ settled (cfgAfterAll q cfg) (levelsAfterAll q lv) = true

theorem Leads.settles {lv lv' : RoleFile LineLevel} {q : List Event} (h : Leads lv q lv')
    (hs : settled allConfigured lv' = true) : Settles allConfigured lv q :=
  ⟨h.allowed, by rw [h.cfg, h.levels, hs]⟩

/-- INIT settles the lines from any configured bits, GSCLK not being HIGH (41_init_reset.md R120). -/
theorem settles_initEvents {order : List Role} (ho : ∀ r, r ∈ order) (first : Bool) (cfg : RoleFile Bool)
    {lv : RoleFile LineLevel} (hgs : lv.gsclk = .low ∨ lv.gsclk = .unknown) :
    Settles cfg lv (initEvents order first) := by
  obtain ⟨x, hx, hreset⟩ := leads_resetEvents first lv
  have hsettled : settled allConfigured ⟨.high, .low, .low, lv.gsclk, x, .low⟩ = true :=
    (settled_iff _ _).2 ⟨rfl, rfl, rfl, rfl, rfl, hx, hgs⟩
  obtain ⟨hallowed, hend⟩ := hreset.settles hsettled
  constructor
  · rw [initEvents, queueAllowed_append, queueAllowed_configure, cfgAfterAll_configure_complete ho,
      levelsAfterAll_configure, hallowed]
    rfl
  · rw [initEvents, cfgAfterAll_append, levelsAfterAll_append, cfgAfterAll_configure_complete ho,
      levelsAfterAll_configure, hend]

/-- From settled lines the events of every command but CLEANUP leave the lines settled (70_reset_and_hazards.md R256,
R259). -/
theorem settles_commandEvents {s : State} (ho : ∀ r, r ∈ s.configOrder) (hs : settled s.cfg s.level = true) {i : Instr}
    (hi : i ≠ .cleanup) : Settles s.cfg s.level (commandEvents i s) := by
  obtain ⟨hcfg, hclk, hlatch, hblank, hprog, hser, hgs⟩ := (settled_iff _ _).1 hs
  have unchanged : Settles s.cfg s.level [] := ⟨rfl, hs⟩
  rw [hcfg] at unchanged ⊢
  cases i with
  | init => exact settles_initEvents ho s.first _ hgs
  | reset =>
    obtain ⟨x, hx, h⟩ := leads_resetEvents s.first s.level
    exact h.settles ((settled_iff _ _).2 ⟨rfl, rfl, rfl, rfl, rfl, hx, hgs⟩)
  | setdot ch val => exact unchanged
  | setgrey ch val => exact unchanged
  | wrdot =>
    obtain ⟨x, hx, h⟩ := leads_latchedFrame .high (slotValues s.dot) 6 hclk hlatch hser
    exact h.settles ((settled_iff _ _).2 ⟨rfl, hclk, hlatch, hblank, rfl, hx, hgs⟩)
  | wrgrey =>
    obtain ⟨x, hx, h⟩ := leads_latchedFrame .low (slotValues s.grey) 12 hclk hlatch hser
    exact h.settles ((settled_iff _ _).2 ⟨rfl, hclk, hlatch, hblank, rfl, hx, hgs⟩)
  | pulse =>
    exact (leads_pulseEvents hgs).settles ((settled_iff _ _).2 ⟨rfl, hclk, hlatch, rfl, hprog, hser, .inl rfl⟩)
  | blank lvl =>
    have h : Leads s.level [.write .blank lvl] { s.level with blank := lineLevelOf lvl } := by
      cases lvl <;> exact ⟨rfl, rfl, rfl⟩
    exact h.settles ((settled_iff _ _).2 ⟨rfl, hclk, hlatch, driven_lineLevelOf lvl, hprog, hser, hgs⟩)
  | cleanup => exact absurd rfl hi

/-! ## Lengths -/

/-- PULSE has the longest list (10_state.md R28; 70_reset_and_hazards.md R263). -/
theorem commandEvents_length_le {s : State} (ho : s.configOrder.length = 6) (i : Instr) :
    (commandEvents i s).length ≤ 8194 := by
  have hone (b : Bool) : (oneShot b).length ≤ 2 := by cases b <;> decide
  have hreset (b : Bool) : (resetEvents b).length ≤ 877 := by
    have := hone b
    simp [resetEvents, preamble, wrdotEvents, wrgreyEvents, shiftOut_length, pulseOf, defaultDotValues,
      defaultGreyValues]
    omega
  cases i with
  | init => have := hreset s.first; simp [commandEvents, initEvents, ho]; omega
  | reset => have := hreset s.first; simp only [commandEvents]; omega
  | wrdot => simp [commandEvents, wrdotEvents, shiftOut_length, pulseOf]
  | wrgrey => simp [commandEvents, wrgreyEvents, shiftOut_length, pulseOf]
  | pulse => simp [commandEvents, pulseEvents, repeatEvents_length, pulseOf, gsPulses]
  | _ => simp [commandEvents]

end Sys2Proof.Machine

/-!
# The invariant of the reachable states

One lemma for each thing a step can do (block reset, fault entry, cancel, acceptance, an event answered OK), and the step
assembled from them by `stepOn_cases`.
-/

namespace Sys2Proof.Machine

/-! ## The chip's count -/

theorem Chip.free_gscnt_le (n : Nat) : (Chip.free n).gscnt ≤ 4096 := Nat.le_of_lt_succ (Config.freeGscnt n).isLt

theorem Chip.countEdge_gscnt_le (c : Chip) : c.countEdge.gscnt ≤ 4096 := Nat.min_le_left ..

theorem Chip.shift_gscnt (lv : RoleFile LineLevel) (n : Nat) (c : Chip) : (c.shift lv n).gscnt = c.gscnt := by
  unfold Chip.shift
  cases lv.clk with
  | low => cases lv.serial <;> rfl
  | _ => rfl

theorem Chip.commit_gscnt (lv : RoleFile LineLevel) (n : Nat) (c : Chip) : (c.commit lv n).gscnt = c.gscnt := by
  unfold Chip.commit
  cases lv.latch with
  | low => cases lv.prog <;> rfl
  | _ => rfl

theorem Chip.greyEdge_gscnt_le (lv : RoleFile LineLevel) (n : Nat) {c : Chip} (h : c.gscnt ≤ 4096) :
    (c.greyEdge lv n).gscnt ≤ 4096 := by
  have hfree : (if Config.freeEdgeCounts n then c.countEdge else c).gscnt ≤ 4096 := by
    split
    · exact c.countEdge_gscnt_le
    · exact h
  have hdraw : (Config.freeGscnt n).val ≤ 4096 := Nat.le_of_lt_succ (Config.freeGscnt n).isLt
  unfold Chip.greyEdge
  cases lv.blank with
  | low =>
    cases lv.gsclk with
    | low => exact c.countEdge_gscnt_le
    | high => exact h
    | unknown => exact hfree
    | released => exact hfree
  | high => exact h
  | unknown => exact hdraw
  | released => exact hdraw

/-- Whatever the chip does with an event, its count stays in 0..4096 (60_exceptions.md R230, R234). -/
theorem Chip.observe_gscnt_le (lv : RoleFile LineLevel) (n : Nat) (e : Event) {c : Chip} (h : c.gscnt ≤ 4096) :
    (c.observe lv n e).gscnt ≤ 4096 := by
  cases e with
  | configure r => exact h
  | teardown => exact Chip.free_gscnt_le n
  | write r l =>
    cases l with
    | low => exact h
    | high =>
      cases r with
      | blank => exact Nat.zero_le _
      | prog => exact h
      | latch => exact (c.commit_gscnt lv n).trans_le h
      | gsclk => exact Chip.greyEdge_gscnt_le lv n h
      | serial => exact h
      | clk => exact (c.shift_gscnt lv n).trans_le h

theorem chipAfterFail_gscnt_le (e : Event) {s : State} (h : s.chip.gscnt ≤ 4096) :
    (chipAfterFail e s).gscnt ≤ 4096 := by
  unfold chipAfterFail
  split
  · exact Chip.observe_gscnt_le _ _ _ h
  · exact h

/-! ## Construction -/

theorem acceptedPins_distinct {req : RoleFile (Option Nat)} {p : RoleFile Nat} (h : acceptedPins req = some p) :
    pinsDistinct p = true := by
  unfold acceptedPins at h
  split at h
  · split at h
    · cases h
      assumption
    · cases h
  · cases h

/-- A constructed block meets the invariant, whatever the chip holds (70_reset_and_hazards.md R250). -/
theorem inv_construct {p : RoleFile Nat} {s : State} (ho : s.configOrder.length = 6 ∧ ∀ r, r ∈ s.configOrder)
    (hp : pinsDistinct p = true) : (construct p s).Inv where
  configOrder := ho
  pins := hp
  cur := ⟨fun _ => rfl, fun _ => rfl⟩
  idle _ := rfl
  idx := Nat.zero_le _
  emitted := Nat.le_refl _
  recordClear _ := rfl
  recordKept h := by cases h
  uninit _ := ⟨rfl, rfl, rfl, rfl, rfl, rfl, rfl, rfl, rfl⟩
  begun h := by rcases h with h | h | h <;> cases h
  ready h := by cases h
  cancelled h := by cases h
  released h := by cases h
  count := Chip.free_gscnt_le _

/-- `State.reset` is itself a construction, the first one to draw free values. -/
theorem reset_eq_construct : State.reset = construct State.reset.pins { State.reset with draws := 0 } := rfl

theorem defaultConfigOrder_complete : Config.defaultConfigOrder.length = 6 ∧ ∀ r, r ∈ Config.defaultConfigOrder :=
  ⟨rfl, fun r => by cases r <;> decide⟩

/-- Settles O58: `State.reset` is a construction with the default CONFIG_ORDER and distinct lines. -/
theorem resetMeetsInvariant : Obligations.ResetMeetsInvariant := by
  unfold Obligations.ResetMeetsInvariant
  rw [reset_eq_construct]
  exact inv_construct defaultConfigOrder_complete (by decide)

/-! ## Samples and answers taken -/

theorem State.Inv.dropInput {s : State} (h : s.Inv) : s.dropInput.Inv := { h with configOrder := h.configOrder }

theorem State.Inv.dropAnswer {s : State} (h : s.Inv) : s.dropAnswer.Inv := { h with configOrder := h.configOrder }

/-! ## Fault entry and cancel -/

theorem causeCode_range (c : Cause) : 1 ≤ (causeCode c).toNat ∧ (causeCode c).toNat ≤ 8 := by cases c <;> decide

theorem roleCodeOf_ne_six (r : Option Role) : roleCodeOf r ≠ 6#3 := by
  cases r with
  | none => decide
  | some r => cases r <;> decide

/-- Fault entry meets the invariant from any block with its parameters and its chip's count in order (60_exceptions.md
R200): the sequencer is empty and the record holds a cause and a role code. -/
theorem inv_raiseFault {s : State} (ho : s.configOrder.length = 6 ∧ ∀ r, r ∈ s.configOrder)
    (hp : pinsDistinct s.pins = true) (hc : s.chip.gscnt ≤ 4096) (c : Cause) (w : Word) (k : BitVec 14)
    (r : Option Role) : (raiseFault c w k r s).Inv where
  configOrder := by simpa using ho
  pins := by simpa using hp
  cur := by simp
  idle := by simp
  idx := by simp
  emitted := by simp
  recordClear := by simp
  recordKept _ := by simp [causeCode_range, roleCodeOf_ne_six]
  uninit := by simp
  begun := by simp
  ready := by simp
  cancelled := by simp
  released := by simp
  count := by simpa using hc

theorem State.Inv.raiseFault {s : State} (h : s.Inv) (c : Cause) (w : Word) (k : BitVec 14) (r : Option Role) :
    (Machine.raiseFault c w k r s).Inv := inv_raiseFault h.configOrder h.pins h.count c w k r

/-- A failed call leaves a faulted block (40_sequencer.md R105). -/
theorem State.Inv.emitFail {s : State} (h : s.Inv) (e : Event) : (Machine.emitFail e s).Inv :=
  inv_raiseFault
    (s := { s with level := levelsAfterFail e s.level, chip := chipAfterFail e s, draws := s.draws + 1 })
    h.configOrder h.pins (chipAfterFail_gscnt_le e h.count) _ _ _ _

/-- A cancelled block has an empty sequencer and keeps its registers (40_sequencer.md R107). -/
theorem State.Inv.cancelStep {s : State} (h : s.Inv) (hr : s.phase = .ready) : (Machine.cancelStep s).Inv where
  configOrder := by simpa using h.configOrder
  pins := by simpa using h.pins
  cur := by simp
  idle := by simp
  idx := by simp
  emitted := by simp
  recordClear _ := by simpa using h.recordClear (by simp [hr])
  recordKept := by simp
  uninit := by simp
  begun _ := by simpa using h.begun (.inl hr)
  ready := by simp
  cancelled _ := by simp
  released := by simp
  count := by simpa using h.count

/-! ## Acceptance -/

/-- Acceptance begins the lifecycles, or leaves them begun (10_state.md R23, R33, R34). -/
theorem commandPost_begun {s : State} (h : s.Inv) {i : Instr} (ha : admission s.phase i = .accept) :
    (commandPost i s).first = false ∧ (commandPost i s).glc ≠ .uninitialized ∧
      (commandPost i s).dlc ≠ .uninitialized := by
  obtain ⟨-, rfl⟩ | hp | ⟨hp, rfl | rfl⟩ := (admission_eq_accept_iff _ _).1 ha
  · simp [commandPost]
  · obtain ⟨hf, hg, hd⟩ := h.begun (.inl hp)
    cases i <;> simp [commandPost, hf, hg, hd]
  · exact h.begun (.inr (.inl hp))
  · exact h.begun (.inr (.inl hp))

/-- The phase an accepted command leaves: READY, or CANCELLED with the recovery, or RELEASED with the teardown
(40_sequencer.md R103). -/
theorem commandPost_phase_cases {s : State} {i : Instr} (ha : admission s.phase i = .accept) :
    ((commandPost i s).phase = .ready ∧ i ≠ .cleanup ∧ (s.phase = .ready ∨ s.phase = .uninit ∧ i = .init)) ∨
      ((commandPost i s).phase = .cancelled ∧ i = .blank .high) ∨
      ((commandPost i s).phase = .released ∧ i = .cleanup) := by
  obtain ⟨hp, rfl⟩ | hp | ⟨hp, rfl | rfl⟩ := (admission_eq_accept_iff _ _).1 ha
  · simp [commandPost, hp]
  · by_cases hi : i = .cleanup <;> simp [commandPost_phase, hi, hp]
  · simp [commandPost, hp]
  · simp [commandPost]

/-- The events of a command that an idle block accepts into READY settle the lines (70_reset_and_hazards.md R256). -/
theorem settles_of_accepted {s : State} (h : s.Inv) (hq : s.queue = []) {i : Instr} (hi : i ≠ .cleanup)
    (hp : s.phase = .ready ∨ s.phase = .uninit ∧ i = .init) : Settles s.cfg s.level (commandEvents i s) := by
  obtain hp | ⟨hp, rfl⟩ := hp
  · have hend := (h.ready hp).2
    rw [hq] at hend
    exact settles_commandEvents h.configOrder.2 hend hi
  · obtain ⟨-, -, -, -, hlevel, -⟩ := h.uninit hp
    exact settles_initEvents h.configOrder.2 s.first s.cfg (.inr (by rw [hlevel]; rfl))

/-- An idle block that accepts a command meets the invariant with the command's events to come (40_sequencer.md R101). -/
theorem State.Inv.loadEvents {s : State} (h : s.Inv) (hq : s.queue = []) {i : Instr}
    (ha : admission s.phase i = .accept) : (Machine.loadEvents i (commandEvents i s) (commandPost i s)).Inv where
  configOrder := by simpa using h.configOrder
  pins := by simpa using h.pins
  cur := by simp
  idle := by simp
  idx := by simpa using commandEvents_length_le h.configOrder.1 i
  emitted := by simp
  recordClear _ := by
    have hp : s.phase ≠ .fault := fun hp => by simp [hp, admission] at ha
    simpa using h.recordClear hp
  recordKept hf := by
    obtain ⟨hp, -⟩ | ⟨hp, -⟩ | ⟨hp, -⟩ := commandPost_phase_cases ha <;> simp [hp] at hf
  uninit hu := by
    obtain ⟨hp, -⟩ | ⟨hp, -⟩ | ⟨hp, -⟩ := commandPost_phase_cases ha <;> simp [hp] at hu
  begun _ := by simpa using commandPost_begun h ha
  ready hr := by
    obtain ⟨-, hi, hp⟩ | ⟨hp, -⟩ | ⟨hp, -⟩ := commandPost_phase_cases ha
    · simpa [Settles] using settles_of_accepted h hq hi hp
    · simp [hp] at hr
    · simp [hp] at hr
  cancelled hc := by
    obtain ⟨hp, -⟩ | ⟨-, rfl⟩ | ⟨hp, -⟩ := commandPost_phase_cases ha
    · simp [hp] at hc
    · exact .inr rfl
    · simp [hp] at hc
  released hr := by
    obtain ⟨hp, -⟩ | ⟨hp, -⟩ | ⟨-, rfl⟩ := commandPost_phase_cases ha
    · simp [hp] at hr
    · simp [hp] at hr
    · exact .inl rfl
  count := by simpa using h.count

/-! ## An event answered OK -/

theorem greyLifeAfter_ne_uninitialized (cur : Option Word) (e : Event) (rest : List Event) {g : GreyLife}
    (h : g ≠ .uninitialized) : greyLifeAfter cur e rest g ≠ .uninitialized := by
  unfold greyLifeAfter
  split
  · simp
  · split
    · simp
    · exact h

theorem dotLifeAfter_ne_uninitialized (cur : Option Word) (e : Event) {d : DotLife} (h : d ≠ .uninitialized) :
    dotLifeAfter cur e d ≠ .uninitialized := by
  unfold dotLifeAfter
  split
  · simp
  · exact h

/-- IDX advances by at most one (40_sequencer.md R104, R106). -/
theorem emitOk_idx_le (e : Event) (rest : List Event) (s : State) :
    (emitOk e rest s).idx.toNat ≤ s.idx.toNat + 1 := by
  rw [emitOk_idx]
  split
  · simp
  · exact (BitVec.toNat_add ..).trans_le (Nat.mod_le ..)

/-- The events left keep the invariant's order and stay in step with IDX and TRACE (40_sequencer.md R104, R106). -/
theorem State.Inv.emitOk {s : State} {e : Event} {rest : List Event} (h : s.Inv) (hf : s.phase ≠ .fault)
    (hq : s.queue = e :: rest) : (Machine.emitOk e rest s).Inv where
  configOrder := by simpa using h.configOrder
  pins := by simpa using h.pins
  cur := by
    have hcur : s.cur ≠ none := by simp [h.cur, hq]
    simp [hcur]
  idle hr := by
    rw [emitOk_queue] at hr
    simp [hr]
  idx := by
    have hidx := h.idx
    have hstep := emitOk_idx_le e rest s
    rw [hq, List.length_cons] at hidx
    rw [emitOk_queue]
    omega
  emitted := by
    rw [emitOk_trace, List.length_append, List.length_singleton]
    exact (emitOk_idx_le e rest s).trans (Nat.succ_le_succ h.emitted)
  recordClear hp := by simpa using h.recordClear hf
  recordKept hp := absurd (by simpa using hp) hf
  uninit hu := by
    obtain ⟨-, hidle, -⟩ := h.uninit (by simpa using hu)
    simp [hq] at hidle
  begun hp := by
    obtain ⟨hfirst, hg, hd⟩ := h.begun (by simpa using hp)
    simpa using ⟨hfirst, greyLifeAfter_ne_uninitialized _ _ _ hg, dotLifeAfter_ne_uninitialized _ _ hd⟩
  ready hr := by
    obtain ⟨hallowed, hend⟩ := h.ready (by simpa using hr)
    rw [hq, queueAllowed, Bool.and_eq_true] at hallowed
    rw [hq, cfgAfterAll_cons, levelsAfterAll_cons] at hend
    simpa using ⟨hallowed.2, hend⟩
  cancelled hc := by
    have hlast := h.cancelled (by simpa using hc)
    simp only [hq, reduceCtorEq, List.cons.injEq, false_or] at hlast
    exact .inl ((emitOk_queue ..).trans hlast.2)
  released hr := by
    have hlast := h.released (by simpa using hr)
    simp only [hq, reduceCtorEq, List.cons.injEq, false_and, or_false] at hlast
    obtain ⟨rfl, rfl⟩ := hlast
    exact .inr ⟨rfl, rfl, rfl⟩
  count := by simpa using Chip.observe_gscnt_le _ _ _ h.count

/-! ## The step -/

/-- Emission keeps the invariant, whatever the answer (40_sequencer.md R104, R105). -/
theorem State.Inv.emit {s : State} (h : s.Inv) (hf : s.phase ≠ .fault) (hq : s.queue ≠ []) : (Machine.emit s).Inv := by
  obtain ⟨e, rest, hq⟩ := List.exists_cons_of_ne_nil hq
  obtain ⟨-, he⟩ | ⟨-, -, he⟩ | ⟨-, -, he⟩ := emit_cases hq
  · rw [he]
    exact h.raiseFault ..
  · rw [he]
    exact h.dropAnswer.emitOk hf hq
  · rw [he]
    exact h.dropAnswer.emitFail e

/-- Settles O59: block reset constructs, and from a state of the invariant every other thing a step can do keeps it. -/
theorem stepKeepsInvariant : Obligations.StepKeepsInvariant := by
  intro s t hinv hs
  have h := hinv.dropInput
  obtain ⟨req, p, -, hp, rfl⟩ | ⟨-, -, rfl⟩ | ⟨-, -, hr, rfl⟩ | ⟨-, hf, -, -, hw⟩ | ⟨-, hf, -, -, he⟩ :=
    stepOn_cases hs
  · exact inv_construct h.configOrder (acceptedPins_distinct hp)
  · exact h
  · exact h.cancelStep hr
  · obtain ⟨-, rfl⟩ | ⟨-, -, rfl⟩ | ⟨hq, i, -, hx⟩ := hw
    · exact h.raiseFault ..
    · exact h.raiseFault ..
    · obtain ⟨ha, rfl⟩ | ⟨c, rfl⟩ | ⟨-, rfl⟩ := exec_cases hx
      · exact h.loadEvents hq ha
      · exact h.raiseFault ..
      · exact h
  · obtain ⟨hq, rfl⟩ | ⟨-, rfl⟩ := he
    · exact h.emit hf hq
    · exact h

end Sys2Proof.Machine

/-!
# What the status port hides

`State.SameButValues` is kept by each operation of the machine, so two blocks that differ at most in the value registers
take matching steps. An event may differ in the data bit on SERIAL alone, and no operation on the relation's fields reads
that bit.
-/

namespace Sys2Proof.Machine

/-! ## Events up to the data bit -/

theorem maskSerial_eq_self_or (e : Event) : maskSerial e = e ∨ ∃ l, e = .write .serial l := by
  cases e with
  | configure r => exact .inl rfl
  | teardown => exact .inl rfl
  | write r l =>
    cases r with
    | serial => exact .inr ⟨l, rfl⟩
    | _ => exact .inl rfl

/-- Two events that are equal without their data bits are equal, or both write SERIAL. -/
theorem eq_or_write_serial_of_maskSerial {e f : Event} (h : maskSerial e = maskSerial f) :
    e = f ∨ ∃ l m, e = .write .serial l ∧ f = .write .serial m := by
  obtain he | ⟨l, rfl⟩ := maskSerial_eq_self_or e
  · obtain hf | ⟨m, rfl⟩ := maskSerial_eq_self_or f
    · exact .inl (by rw [← he, h, hf])
    · exact .inr ⟨.low, m, he.symm.trans h, rfl⟩
  · obtain hf | ⟨m, rfl⟩ := maskSerial_eq_self_or f
    · exact .inr ⟨l, .low, rfl, hf.symm.trans h.symm⟩
    · exact .inr ⟨l, m, rfl, rfl⟩

/-! What emission reads of an event is not its data bit. -/

section SameEvent

variable {e f : Event} (h : maskSerial e = maskSerial f)
include h

theorem eventRole_of_maskSerial : eventRole e = eventRole f := by
  obtain rfl | ⟨l, m, rfl, rfl⟩ := eq_or_write_serial_of_maskSerial h <;> rfl

theorem failCause_of_maskSerial : failCause e = failCause f := by
  obtain rfl | ⟨l, m, rfl, rfl⟩ := eq_or_write_serial_of_maskSerial h <;> rfl

theorem writesUnconfigured_of_maskSerial (cfg : RoleFile Bool) :
    writesUnconfigured cfg e = writesUnconfigured cfg f := by
  obtain rfl | ⟨l, m, rfl, rfl⟩ := eq_or_write_serial_of_maskSerial h <;> rfl

theorem cfgAfter_of_maskSerial (cfg : RoleFile Bool) : cfgAfter e cfg = cfgAfter f cfg := by
  obtain rfl | ⟨l, m, rfl, rfl⟩ := eq_or_write_serial_of_maskSerial h <;> rfl

theorem beq_latchHigh_of_maskSerial : (e == .write .latch .high) = (f == .write .latch .high) := by
  obtain rfl | ⟨l, m, rfl, rfl⟩ := eq_or_write_serial_of_maskSerial h <;> rfl

theorem dotLifeAfter_of_maskSerial (cur : Option Word) (d : DotLife) : dotLifeAfter cur e d = dotLifeAfter cur f d := by
  simp only [dotLifeAfter, beq_latchHigh_of_maskSerial h]

end SameEvent

theorem isShift_maskSerial (e : Event) : isShift (maskSerial e) = isShift e := by
  cases e with
  | write r l => cases r <;> rfl
  | _ => rfl

theorem any_isShift_of_map_maskSerial {p q : List Event} (h : p.map maskSerial = q.map maskSerial) :
    p.any isShift = q.any isShift := by
  have hmask (l : List Event) : (l.map maskSerial).any isShift = l.any isShift := by
    simp [List.any_map, Function.comp_def, isShift_maskSerial]
  rw [← hmask p, h, hmask q]

theorem isEmpty_of_map_maskSerial {p q : List Event} (h : p.map maskSerial = q.map maskSerial) :
    p.isEmpty = q.isEmpty := by
  rw [← List.isEmpty_map (f := maskSerial), h, List.isEmpty_map]

theorem greyLifeAfter_of_maskSerial {e f : Event} {p q : List Event} (he : maskSerial e = maskSerial f)
    (hpq : p.map maskSerial = q.map maskSerial) (cur : Option Word) (g : GreyLife) :
    greyLifeAfter cur e p g = greyLifeAfter cur f q g := by
  simp only [greyLifeAfter, beq_latchHigh_of_maskSerial he, isEmpty_of_map_maskSerial hpq]

theorem map_maskSerial_shiftValue (u v w : Nat) :
    (shiftValue u w).map maskSerial = (shiftValue v w).map maskSerial := by
  induction w with
  | zero => rfl
  | succ b ih => simp [shiftValue, maskSerial, ih]

/-- SHIFTOUT of as many values is the same without the data bits (40_sequencer.md R108). -/
theorem map_maskSerial_shiftOut {us vs : List Nat} (w : Nat) (h : us.length = vs.length) :
    (shiftOut us w).map maskSerial = (shiftOut vs w).map maskSerial := by
  induction us generalizing vs with
  | nil => rw [List.eq_nil_of_length_eq_zero h.symm]
  | cons u us ih =>
    obtain _ | ⟨v, vs⟩ := vs
    · cases h
    · simp only [shiftOut, List.map_append, map_maskSerial_shiftValue u v, ih (Nat.succ.inj h)]

/-! ## Levels up to SERIAL's -/

/-- Two files of levels that differ at most on SERIAL. -/
def SameButSerial (a b : RoleFile LineLevel) : Prop :=
  a.blank = b.blank ∧ a.prog = b.prog ∧ a.latch = b.latch ∧ a.gsclk = b.gsclk ∧ a.clk = b.clk

theorem SameButSerial.set {a b : RoleFile LineLevel} (h : SameButSerial a b) (r : Role) (v : LineLevel) :
    SameButSerial (a.set r v) (b.set r v) := by
  obtain ⟨h₁, h₂, h₃, h₄, h₅⟩ := h
  cases r with
  | blank => exact ⟨rfl, h₂, h₃, h₄, h₅⟩
  | prog => exact ⟨h₁, rfl, h₃, h₄, h₅⟩
  | latch => exact ⟨h₁, h₂, rfl, h₄, h₅⟩
  | gsclk => exact ⟨h₁, h₂, h₃, rfl, h₅⟩
  | serial => exact ⟨h₁, h₂, h₃, h₄, h₅⟩
  | clk => exact ⟨h₁, h₂, h₃, h₄, rfl⟩

theorem SameButSerial.levelsAfter {a b : RoleFile LineLevel} (h : SameButSerial a b) {e f : Event}
    (he : maskSerial e = maskSerial f) : SameButSerial (levelsAfter e a) (levelsAfter f b) := by
  obtain rfl | ⟨l, m, rfl, rfl⟩ := eq_or_write_serial_of_maskSerial he
  · cases e with
    | configure r => exact h
    | write r l => exact h.set r _
    | teardown => exact ⟨rfl, rfl, rfl, rfl, rfl⟩
  · exact h

theorem SameButSerial.levelsAfterFail {a b : RoleFile LineLevel} (h : SameButSerial a b) {e f : Event}
    (he : maskSerial e = maskSerial f) : SameButSerial (levelsAfterFail e a) (levelsAfterFail f b) := by
  obtain rfl | ⟨l, m, rfl, rfl⟩ := eq_or_write_serial_of_maskSerial he
  · cases e with
    | configure r => exact h.set r _
    | write r l => exact h.set r _
    | teardown => exact ⟨rfl, rfl, rfl, rfl, rfl⟩
  · exact h

/-! ## Operations that keep the relation -/

namespace State.SameButValues

variable {s t : State}

theorem busy (h : s.SameButValues t) : s.busy = t.busy := by
  rw [State.busy, State.busy, isEmpty_of_map_maskSerial h.queue]

theorem status (h : s.SameButValues t) : s.status = t.status := by
  simp only [State.status, h.phase, h.busy, h.fault]

theorem cmdReady (h : s.SameButValues t) : s.cmdReady = t.cmdReady := by
  simp only [State.cmdReady, h.phase, h.busy]

theorem nextAnswer (h : s.SameButValues t) : s.nextAnswer = t.nextAnswer := by
  simp only [State.nextAnswer, h.answers, h.laterAnswer]

theorem sampled (h : s.SameButValues t) : s.sampled = t.sampled := by
  simp only [State.sampled, h.inputs]

theorem inFrame (h : s.SameButValues t) : s.inFrame = t.inFrame := by
  have hlen : s.trace.length = t.trace.length := by
    rw [← List.length_map (f := maskSerial), h.trace, List.length_map]
  have hemitted : s.emitted.map maskSerial = t.emitted.map maskSerial := by
    simp only [State.emitted, List.map_drop, h.trace, hlen, h.idx]
  rw [State.inFrame, State.inFrame, any_isShift_of_map_maskSerial hemitted, any_isShift_of_map_maskSerial h.queue]

theorem dropInput (h : s.SameButValues t) : s.dropInput.SameButValues t.dropInput :=
  { h with inputs := congrArg List.tail h.inputs }

theorem dropAnswer (h : s.SameButValues t) : s.dropAnswer.SameButValues t.dropAnswer :=
  { h with answers := congrArg List.tail h.answers }

theorem loseFrame (h : s.SameButValues t) : (loseFrame s).SameButValues (loseFrame t) := by
  unfold Machine.loseFrame
  rw [h.inFrame]
  split
  · exact { h with draws := congrArg (· + 1) h.draws }
  · exact h

theorem raiseFault (h : s.SameButValues t) (c : Cause) (w : Word) (k : BitVec 14) (r : Option Role) :
    (raiseFault c w k r s).SameButValues (raiseFault c w k r t) :=
  { h.loseFrame with fault := rfl, queue := rfl, cur := rfl, idx := rfl, phase := rfl }

theorem cancelStep (h : s.SameButValues t) : (cancelStep s).SameButValues (cancelStep t) :=
  { h.loseFrame with queue := rfl, cur := rfl, idx := rfl, phase := rfl }

theorem construct (h : s.SameButValues t) (p : RoleFile Nat) : (construct p s).SameButValues (construct p t) where
  first := rfl
  levels := ⟨rfl, rfl, rfl, rfl, rfl⟩
  cfg := rfl
  phase := rfl
  cur := rfl
  queue := rfl
  idx := rfl
  trace := rfl
  fault := rfl
  glc := rfl
  dlc := rfl
  pins := rfl
  configOrder := h.configOrder
  inputs := h.inputs
  answers := h.answers
  laterAnswer := h.laterAnswer
  draws := congrArg (· + 1) h.draws
  preDraw := h.draws

/-! ### Acceptance -/

theorem commandPost (h : s.SameButValues t) (i : Instr) : (commandPost i s).SameButValues (commandPost i t) := by
  cases i with
  | init => exact { h with first := rfl, glc := rfl, dlc := rfl, phase := rfl }
  | reset => exact { h with first := rfl, glc := rfl, dlc := rfl }
  | setdot ch val => exact { h with dlc := rfl }
  | setgrey ch val => exact { h with glc := rfl }
  | wrdot => exact { h with dlc := rfl }
  | wrgrey => exact { h with glc := rfl }
  | pulse => exact h
  | blank lvl => exact h
  | cleanup => exact { h with phase := rfl }

/-- A command's events depend on the value registers in their data bits alone (43_serial_writes.md R150, R151). -/
theorem commandEvents (h : s.SameButValues t) (i : Instr) :
    (commandEvents i s).map maskSerial = (commandEvents i t).map maskSerial := by
  cases i with
  | init => simp only [Machine.commandEvents, h.configOrder, h.first]
  | reset => simp only [Machine.commandEvents, h.first]
  | wrdot =>
    simp only [Machine.commandEvents, wrdotEvents, List.map_append,
      map_maskSerial_shiftOut (us := slotValues s.dot) (vs := slotValues t.dot) 6 (by simp)]
  | wrgrey =>
    simp only [Machine.commandEvents, wrgreyEvents, List.map_append,
      map_maskSerial_shiftOut (us := slotValues s.grey) (vs := slotValues t.grey) 12 (by simp)]
  | _ => rfl

theorem loadEvents (h : s.SameButValues t) (i : Instr) {p q : List Event} (hpq : p.map maskSerial = q.map maskSerial) :
    (loadEvents i p s).SameButValues (loadEvents i q t) :=
  { h with queue := hpq, idx := rfl, cur := by simp only [loadEvents_cur, isEmpty_of_map_maskSerial hpq] }

/-! ### Emission -/

theorem emitOk (h : s.SameButValues t) {e f : Event} {p q : List Event} (he : maskSerial e = maskSerial f)
    (hpq : p.map maskSerial = q.map maskSerial) : (emitOk e p s).SameButValues (emitOk f q t) := by
  have hlast : p = [] ↔ q = [] := by
    rw [← List.isEmpty_iff, isEmpty_of_map_maskSerial hpq, List.isEmpty_iff]
  have hlevels : SameButSerial s.level t.level := h.levels
  constructor
  case levels =>
    rw [emitOk_level, emitOk_level]
    exact hlevels.levelsAfter he
  all_goals
    simp [h.first, h.cfg, h.phase, h.cur, hpq, h.idx, h.trace, he, h.fault, h.glc, h.dlc, h.pins, h.configOrder,
      h.inputs, h.answers, h.laterAnswer, h.draws, h.preDraw, hlast, cfgAfter_of_maskSerial he,
      dotLifeAfter_of_maskSerial he, greyLifeAfter_of_maskSerial he hpq]

theorem raiseAtEmission (h : s.SameButValues t) (c : Cause) {e f : Event} (he : maskSerial e = maskSerial f) :
    (raiseAtEmission c e s).SameButValues (raiseAtEmission c f t) := by
  unfold Machine.raiseAtEmission
  rw [eventRole_of_maskSerial he, h.cur, h.idx]
  exact h.raiseFault ..

theorem emitFail (h : s.SameButValues t) {e f : Event} (he : maskSerial e = maskSerial f) :
    (emitFail e s).SameButValues (emitFail f t) := by
  have hlevels : SameButSerial s.level t.level := h.levels
  unfold Machine.emitFail
  rw [failCause_of_maskSerial he]
  apply raiseAtEmission (he := he)
  exact { h with levels := hlevels.levelsAfterFail he, draws := congrArg (· + 1) h.draws }

theorem emit (h : s.SameButValues t) : (emit s).SameButValues (emit t) := by
  have hqueue := h.queue.symm
  cases hs : s.queue with
  | nil =>
    rw [hs, List.map_nil, List.map_eq_nil_iff] at hqueue
    simpa only [Machine.emit, hs, hqueue] using h
  | cons e p =>
    rw [hs, List.map_cons, List.map_eq_cons_iff] at hqueue
    obtain ⟨f, q, ht, he, hpq⟩ := hqueue
    simp only [Machine.emit, hs, ht]
    rw [writesUnconfigured_of_maskSerial he, h.cfg, h.nextAnswer]
    split
    · exact h.raiseAtEmission _ he.symm
    · split
      · exact h.dropAnswer.emitOk he.symm hpq.symm
      · exact h.dropAnswer.emitFail he.symm

end State.SameButValues

/-! ## The step -/

/-- The outcome `p` answers a matching next state wherever `o` answers one. -/
def Matches (o p : Host.Outcome State Fault Refusal) : Prop :=
  ∀ s', o = .next s' → ∃ t', p = .next t' ∧ s'.SameButValues t'

theorem Matches.next {s t : State} (h : s.SameButValues t) : Matches (.next s) (.next t) := by
  rintro _ ⟨⟩
  exact ⟨t, rfl, h⟩

theorem exec_matches {s t : State} (h : s.SameButValues t) (i : Instr) : Matches (exec i s) (exec i t) := by
  rw [exec_eq_accept_commandEvents, exec_eq_accept_commandEvents]
  unfold accept
  rw [h.phase]
  split
  · exact .next ((h.commandPost i).loadEvents i (h.commandEvents i))
  · exact .next (h.raiseFault ..)
  · exact .next h

theorem presentWord_matches {s t : State} (h : s.SameButValues t) (w : Word) :
    Matches (presentWord w s) (presentWord w t) := by
  unfold presentWord acceptWord
  rw [h.busy]
  split
  · exact .next (h.raiseFault ..)
  · split
    · exact .next (h.raiseFault ..)
    · exact exec_matches h _

theorem resetBlock_matches {s t : State} (h : s.SameButValues t) (req : RoleFile (Option Nat)) :
    Matches (resetBlock req s) (resetBlock req t) := by
  unfold resetBlock
  split
  · exact .next (h.construct _)
  · rintro _ ⟨⟩

theorem stepOn_matches {s t : State} (h : s.SameButValues t) (x : HostInput) :
    Matches (stepOn x s) (stepOn x t) := by
  unfold stepOn
  rw [h.phase, h.busy]
  split
  · exact resetBlock_matches h _
  · split
    · exact .next h
    · split
      · exact .next h.cancelStep
      · split
        · exact presentWord_matches h _
        · split
          · exact .next h.emit
          · exact .next h

/-- Settles O52: every operation of a step keeps the relation, and the status port reads fields the relation equates. -/
theorem statusHidesValues : Obligations.StatusHidesValues := by
  intro s t s' h hs
  have hmatch : Matches (step s) (step t) := by
    unfold step
    rw [h.sampled]
    exact stepOn_matches h.dropInput _
  obtain ⟨t', ht, hsame⟩ := hmatch s' hs
  exact ⟨t', ht, hsame, hsame.status, hsame.cmdReady⟩

end Sys2Proof.Machine

/-!
# Registers, phase, fault record, lifecycles and the port over one step

The statements of 10_state.md about a single step, read off `step_accepts_or_keeps_registers` and `step_of_emitting_ok`.
-/

namespace Sys2Proof.Machine

/-! ## The lifecycles -/

theorem encode_wrdot : encode .wrdot = 0x5#64 := by decide
theorem encode_wrgrey : encode .wrgrey = 0x6#64 := by decide
theorem encode_pulse : encode .pulse = 0x7#64 := by decide

theorem curIs_iff (cur : Option Word) (i : Instr) : curIs cur i = true ↔ cur = some (encode i) := by simp [curIs]

theorem greyLifeAfter_wrgrey_latch (rest : List Event) :
    greyLifeAfter (some 0x6#64) (.write .latch .high) rest .shiftedNotLatched = .latchedPendingRefresh := by
  simp [greyLifeAfter, curIs_iff, encode_wrgrey]

theorem greyLifeAfter_pulse_last (e : Event) {g : GreyLife} (hg : g = .latchedPendingRefresh ∨ g = .idle) :
    greyLifeAfter (some 0x7#64) e [] g = .displayed := by
  simp [greyLifeAfter, curIs_iff, encode_wrgrey, encode_pulse, hg]

/-- GLC moves on WRGREY's LATCH HIGH and on PULSE's last event alone (10_state.md R33). -/
theorem greyLifeAfter_ne_self {cur : Option Word} {e : Event} {rest : List Event} {g : GreyLife}
    (h : greyLifeAfter cur e rest g ≠ g) :
    (cur = some 0x6#64 ∧ e = .write .latch .high ∧ g = .shiftedNotLatched) ∨
      (cur = some 0x7#64 ∧ rest = [] ∧ (g = .latchedPendingRefresh ∨ g = .idle)) := by
  unfold greyLifeAfter at h
  split at h
  · rename_i hlatch
    exact .inl (by simpa [curIs_iff, encode_wrgrey, and_assoc] using hlatch)
  · split at h
    · rename_i hlast
      exact .inr (by simpa [curIs_iff, encode_pulse, and_assoc] using hlast)
    · exact absurd rfl h

theorem dotLifeAfter_wrdot_latch (d : DotLife) :
    dotLifeAfter (some 0x5#64) (.write .latch .high) d = .latchedActive := by
  simp [dotLifeAfter, curIs_iff, encode_wrdot]

/-- DLC moves on WRDOT's LATCH HIGH alone (10_state.md R34). -/
theorem dotLifeAfter_ne_self {cur : Option Word} {e : Event} {d : DotLife} (h : dotLifeAfter cur e d ≠ d) :
    cur = some 0x5#64 ∧ e = .write .latch .high := by
  unfold dotLifeAfter at h
  split at h
  · rename_i hlatch
    simpa [curIs_iff, encode_wrdot] using hlatch
  · exact absurd rfl h

/-- Settles O17: the event is answered by `emitOk`, whose GLC and DLC are `greyLifeAfter` and `dotLifeAfter`. -/
theorem emissionMovesLifecycles : Obligations.EmissionMovesLifecycles := by
  intro s t e rest hemit hcfg hans hs
  rw [step_of_emitting_ok hemit hcfg hans] at hs
  cases hs
  simp only [emitOk_glc, emitOk_dlc, dropAnswer_cur, dropAnswer_glc, dropAnswer_dlc, dropInput_cur, dropInput_glc,
    dropInput_dlc]
  refine ⟨?_, ?_, greyLifeAfter_ne_self, ?_, dotLifeAfter_ne_self⟩
  · intro hcur he hg
    rw [hcur, he, hg, greyLifeAfter_wrgrey_latch]
  · intro hcur hrest hg
    rw [hcur, hrest, greyLifeAfter_pulse_last e hg]
  · intro hcur he
    rw [hcur, he, dotLifeAfter_wrdot_latch]

/-! ## The physical port -/

/-- An event answered OK adds its call to the port (10_state.md R30). -/
theorem emitOk_portTrace (e : Event) (rest : List Event) (s : State) :
    (emitOk e rest s).portTrace = s.portTrace ++ [portCall s.pins e] := by
  simp [State.portTrace]

/-- Settles O22: the port carries the call of the event, `portCall` of the role's line and the level's bit. -/
theorem portCarriesLineAndBit : Obligations.PortCarriesLineAndBit := by
  intro s e rest hemit hcfg hans
  refine ⟨_, step_of_emitting_ok hemit hcfg hans, ?_⟩
  have hport : (emitOk e rest s.dropInput.dropAnswer).portTrace = s.portTrace ++ [portCall s.pins e] :=
    emitOk_portTrace e rest _
  rw [hport]
  exact ⟨fun r he => he ▸ rfl, fun r he => he ▸ rfl, fun r he => he ▸ rfl, fun he => he ▸ rfl⟩

/-! ## Registers, phase and fault record -/

/-- Only INIT, RESET and SETDOT write DOT (10_state.md R22). -/
theorem commandPost_dot_ne {i : Instr} {s : State} (h : (commandPost i s).dot ≠ s.dot) :
    i = .init ∨ i = .reset ∨ ∃ ch val, i = .setdot ch val := by
  cases i with
  | init => exact .inl rfl
  | reset => exact .inr (.inl rfl)
  | setdot ch val => exact .inr (.inr ⟨ch, val, rfl⟩)
  | _ => exact absurd rfl h

/-- Only INIT, RESET and SETGREY write GREY (10_state.md R22). -/
theorem commandPost_grey_ne {i : Instr} {s : State} (h : (commandPost i s).grey ≠ s.grey) :
    i = .init ∨ i = .reset ∨ ∃ ch val, i = .setgrey ch val := by
  cases i with
  | init => exact .inl rfl
  | reset => exact .inr (.inl rfl)
  | setgrey ch val => exact .inr (.inr ⟨ch, val, rfl⟩)
  | _ => exact absurd rfl h

/-- INIT and RESET clear FIRST and no other command writes it (10_state.md R23). -/
theorem commandPost_first (i : Instr) (s : State) :
    (commandPost i s).first = if i = .init ∨ i = .reset then false else s.first := by
  cases i <;> rfl

/-- Settles O48: a step writes DOT or GREY by accepting one of their writers. -/
theorem valueRegisterWriters : Obligations.ValueRegisterWriters := by
  intro s t hs hr
  obtain ⟨i, hv, hd, -, rfl⟩ | ⟨⟨hdot, hgrey, -⟩, -⟩ := step_accepts_or_keeps_registers hs hr
  · simp only [hv, hd, Decoded.cmd.injEq, true_and]
    exact ⟨commandPost_dot_ne (s := s.dropInput), commandPost_grey_ne (s := s.dropInput)⟩
  · exact ⟨fun h => absurd hdot h, fun h => absurd hgrey h⟩

/-- Settles O49: a step writes FIRST by accepting INIT or RESET, and those are accepted into READY. -/
theorem firstIsClearedOnce : Obligations.FirstIsClearedOnce := by
  intro s t hs hr
  obtain ⟨i, hv, hd, ha, rfl⟩ | ⟨⟨-, -, hfirst⟩, -⟩ := step_accepts_or_keeps_registers hs hr
  · simp only [loadEvents_first, loadEvents_phase, commandPost_first, dropInput_first, hv, hd, Decoded.cmd.injEq,
      true_and]
    by_cases hi : i = .init ∨ i = .reset
    · have hready : (commandPost i s.dropInput).phase = .ready := by
        obtain ⟨h, -⟩ | ⟨-, rfl⟩ | ⟨-, rfl⟩ := commandPost_phase_cases (s := s.dropInput) ha
        · exact h
        · simp at hi
        · simp at hi
      simp [hi, hready]
    · simp [hi]
  · rw [hfirst]
    exact ⟨id, fun h h' => absurd (h.symm.trans h') (by simp)⟩

/-- Settles O50: an accepted command moves PHASE as the admission table allows, any other step by cancel or fault. -/
theorem phaseTransitions : Obligations.PhaseTransitions := by
  intro s t hs hr
  obtain ⟨i, hv, hd, ha, rfl⟩ | ⟨-, ⟨hkeep, -⟩ | ⟨hp, ht, hc, -⟩ | hfault⟩ := step_accepts_or_keeps_registers hs hr
  · simp only [loadEvents_phase, commandPost_phase, dropInput_phase, hv, hd, Decoded.cmd.injEq, true_and]
    obtain ⟨hp, rfl⟩ | hp | ⟨hp, rfl | rfl⟩ := (admission_eq_accept_iff _ _).1 ha
    · simp [hp]
    · by_cases hi : i = .cleanup <;> simp [hp, hi]
    · simp
    · simp [hp]
  · exact .inl hkeep
  · exact .inr (.inr (.inl ⟨hp, ht, hc⟩))
  · exact .inr (.inr (.inr (.inr hfault)))

/-- Settles O51: neither an accepted command nor a cancel writes the record, so the step that does enters FAULT. -/
theorem faultRecordWrittenOnce : Obligations.FaultRecordWrittenOnce := by
  intro s t hs hr hne
  obtain ⟨i, -, -, -, rfl⟩ | ⟨-, ⟨-, hkeep⟩ | ⟨-, -, -, hkeep⟩ | hfault⟩ := step_accepts_or_keeps_registers hs hr
  · exact absurd (commandPost_fault i s.dropInput) hne
  · exact absurd hkeep hne
  · exact absurd hkeep hne
  · exact hfault

end Sys2Proof.Machine

/-!
# TRACE over one step

Only an event answered OK is appended to TRACE (20_memory.md R56); acceptance, cancel and fault entry leave it.
-/

namespace Sys2Proof.Machine

/-- Acceptance of a command adds no event to TRACE (40_sequencer.md R101). -/
theorem exec_trace {i : Instr} {s t : State} (h : exec i s = .next t) : t.trace = s.trace := by
  obtain ⟨-, rfl⟩ | ⟨c, rfl⟩ | ⟨-, rfl⟩ := exec_cases h
  · simp
  · simp [raiseAtAcceptance]
  · rfl

/-- Emission leaves TRACE by a fault, or moves the head of Q to the end of TRACE (40_sequencer.md R104, R105). -/
theorem emit_trace {s : State} {e : Event} {rest : List Event} (hq : s.queue = e :: rest) :
    (emit s).trace = s.trace ∨ ((emit s).queue = rest ∧ (emit s).trace = s.trace ++ [e]) := by
  obtain ⟨-, h⟩ | ⟨-, -, h⟩ | ⟨-, -, h⟩ := emit_cases hq
  · exact .inl (by simp [h, raiseAtEmission])
  · exact .inr (by simp [h])
  · exact .inl (by simp [h, emitFail, raiseAtEmission])

/-- Settles O21: of the branches of a step without block reset, emission alone appends to TRACE. -/
theorem traceGrowsByHeadOfQueue : Obligations.TraceGrowsByHeadOfQueue := by
  intro s t hs hr
  obtain ⟨req, p, h, -, -⟩ | ⟨-, -, rfl⟩ | ⟨-, -, -, rfl⟩ | ⟨-, -, -, -, hw⟩ | ⟨-, -, -, -, he⟩ := stepOn_cases hs
  · simp [hr] at h
  · exact .inl rfl
  · exact .inl (by simp)
  · obtain ⟨-, rfl⟩ | ⟨-, -, rfl⟩ | ⟨-, i, -, hx⟩ := hw
    · exact .inl (by simp [raiseAtAcceptance])
    · exact .inl (by simp [raiseAtAcceptance])
    · exact .inl (exec_trace (s := s.dropInput) hx)
  · obtain ⟨hq, rfl⟩ | ⟨-, rfl⟩ := he
    · obtain ⟨e, rest, hq⟩ := List.exists_cons_of_ne_nil hq
      exact (emit_trace hq).imp id fun ⟨hqueue, htrace⟩ => ⟨e, rest, hq, hqueue, htrace⟩
    · exact .inl rfl

end Sys2Proof.Machine

/-!
# The triples of a shift

How `ShiftTriples q o n bit` carries over to longer lists and joins over consecutive ranges, then the triples of
SHIFTOUT and of WRDOT, and what WRDOT shifts after a SETDOT.
-/

namespace Sys2Proof.Machine

/-! ## Triples of a list and of its parts -/

section

variable {q : List Event} {o n m : Nat} {bit bit' : Nat → Bool}

theorem ShiftTriples.congr (h : ShiftTriples q o n bit) (hbit : ∀ k, k < n → bit' k = bit k) :
    ShiftTriples q o n bit' := by
  intro k hk
  rw [hbit k hk]
  exact h k hk

/-- Two consecutive ranges of triples make one. -/
theorem ShiftTriples.add (hn : ShiftTriples q o n bit) (hm : ShiftTriples q (o + 3 * n) m fun k => bit (n + k)) :
    ShiftTriples q o (n + m) bit := by
  intro k hk
  obtain hlt | hge := Nat.lt_or_ge k n
  · exact hn k hlt
  · obtain ⟨j, rfl⟩ := Nat.exists_eq_add_of_le hge
    have hj := hm j (by omega)
    rwa [show o + 3 * n + 3 * j = o + 3 * (n + j) by ring] at hj

theorem ShiftTriples.append_right (h : ShiftTriples q o n bit) (r : List Event) : ShiftTriples (q ++ r) o n bit := by
  have keep {i : Nat} {e : Event} (hi : q[i]? = some e) : (q ++ r)[i]? = some e :=
    (List.getElem?_append_left (List.getElem?_eq_some_iff.1 hi).1).trans hi
  intro k hk
  obtain ⟨hserial, hhigh, hlow⟩ := h k hk
  exact ⟨keep hserial, keep hhigh, keep hlow⟩

theorem ShiftTriples.append_left (p : List Event) (h : ShiftTriples q o n bit) :
    ShiftTriples (p ++ q) (p.length + o) n bit := by
  intro k hk
  simpa only [Nat.add_assoc, List.getElem?_append_right (Nat.le_add_right _ _), Nat.add_sub_cancel_left] using h k hk

end

/-! ## The triples of the serial writes -/

/-- One value is shifted most significant bit first (40_sequencer.md R108). -/
theorem shiftValue_triples (v w : Nat) : ShiftTriples (shiftValue v w) 0 w fun k => v.testBit (w - 1 - k) := by
  induction w with
  | zero => exact fun k hk => absurd hk (Nat.not_lt_zero k)
  | succ b ih =>
    have hfirst : ShiftTriples (shiftValue v (b + 1)) 0 1 fun k => v.testBit (b + 1 - 1 - k) := by
      intro k hk
      obtain rfl : k = 0 := by omega
      exact ⟨rfl, rfl, rfl⟩
    have hrest := ih.append_left [.write .serial (levelOfBit (v.testBit b)), .write .clk .high, .write .clk .low]
    have hall := hfirst.add (m := b) (hrest.congr fun k _ => congrArg v.testBit (by omega))
    rwa [Nat.add_comm 1 b] at hall

/-- The values are shifted in list order, `w` triples each (40_sequencer.md R109). -/
theorem shiftOut_triples (vs : List Nat) (w : Nat) :
    ShiftTriples (shiftOut vs w) 0 (w * vs.length) fun k => (vs.getD (k / w) 0).testBit (w - 1 - k % w) := by
  induction vs with
  | nil => exact fun k hk => absurd hk (Nat.not_lt_zero k)
  | cons v rest ih =>
    rw [List.length_cons, Nat.mul_succ, Nat.add_comm]
    apply ShiftTriples.add
    · refine ((shiftValue_triples v w).append_right _).congr fun k hk => ?_
      simp [Nat.div_eq_of_lt hk, Nat.mod_eq_of_lt hk]
    · have hrest := ih.append_left (shiftValue v w)
      rw [shiftValue_length, Nat.add_comm] at hrest
      refine hrest.congr fun k hk => ?_
      have hw : 0 < w := Nat.pos_of_mul_pos_right (Nat.zero_lt_of_lt hk)
      simp [Nat.add_div_left k hw]

/-- WRDOT's triples stand between PROG HIGH and the LATCH pulse (43_serial_writes.md R152). -/
theorem wrdotEvents_triples (d : List Nat) :
    ShiftTriples (wrdotEvents d) 1 (6 * d.length) fun k => (d.getD (k / 6) 0).testBit (5 - k % 6) :=
  ((shiftOut_triples d 6).append_left [.write .prog .high]).append_right (pulseOf .latch)

/-! ## WRDOT after SETDOT -/

/-- Every command is accepted in READY (40_sequencer.md R103). -/
theorem exec_of_ready {s : State} (hp : s.phase = .ready) (i : Instr) :
    exec i s = .next (loadEvents i (commandEvents i s) (commandPost i s)) := by
  rw [exec_eq_accept_commandEvents]
  exact accept_of_admission ((admission_eq_accept_iff _ _).2 (.inr (.inl hp)))

theorem slotValues_set_getD_same {w : Nat} (f : Vector (BitVec w) 16) (i : Fin 16) (v : BitVec w) :
    (slotValues (f.set i.val v)).getD i.val 0 = v.toNat := by
  rw [slotValues_getD _ _ i.isLt, Vector.getElem_set_self]

/-- Settles O26: bit `j` of slot `n` is triple `6 n + j` of WRDOT, and the slot holds the value SETDOT wrote. -/
theorem wrdotShiftsWhatSetdotStored : Obligations.WrdotShiftsWhatSetdotStored := by
  intro s ch val hp
  have hp' : (loadEvents (.setdot ch val) [] (postSetdot ch val s)).phase = .ready := hp
  refine ⟨_, _, exec_of_ready hp _, exec_of_ready hp' _, fun j hj => ?_⟩
  have hslot := (slotOf ch).isLt
  have hdiv : (6 * (slotOf ch).val + j) / 6 = (slotOf ch).val := by omega
  have hmod : (6 * (slotOf ch).val + j) % 6 = j := by omega
  have hvalue : (dotValue val).toNat = (clamp 0 63 val).toNat := by rw [← dotValue_toNat, Int.toNat_natCast]
  obtain ⟨hserial, -, -⟩ :=
    wrdotEvents_triples (slotValues (s.dot.set (slotOf ch).val (dotValue val))) (6 * (slotOf ch).val + j)
      (by rw [slotValues_length]; omega)
  simp only [hdiv, hmod, slotValues_set_getD_same, hvalue] at hserial
  exact hserial

end Sys2Proof.Machine

/-!
# The decoder and the encoder

A word is the sum of its six fields. `decode_eq_cmd_iff` says the decoder once: a word decodes to a command just when it
is the encoding of that command and the port can carry it.
-/

namespace Sys2Proof

/-! ## The fields of a word -/

/-- The six fields of 30_encoding.md R70 cover the word. -/
theorem toNat_eq_fields (w : Word) :
    w.toNat = (opField w).toNat + 16 * (rsv0Field w).toNat + 256 * (lField w).toNat + 512 * (rsv1Field w).toNat +
      65536 * (chField w).toNat + 4294967296 * (valField w).toNat := by
  have hw := w.isLt
  simp only [opField, rsv0Field, lField, rsv1Field, chField, valField, BitVec.extractLsb'_toNat,
    Nat.shiftRight_eq_div_pow]
  omega

/-- `encode i` is the only word with the fields of `i` and zero reserved fields. -/
theorem encode_eq_of_fields {w : Word} {i : Instr} (hop : opField w = opcodeOf i) (hrsv0 : rsv0Field w = 0#4)
    (hl : lField w = lOf i) (hrsv1 : rsv1Field w = 0#7) (hch : chField w = chOf i) (hval : valField w = valOf i) :
    encode i = w := by
  apply BitVec.eq_of_toNat_eq
  rw [toNat_eq_fields w, toNat_eq_fields (encode i)]
  simp [hop, hrsv0, hl, hrsv1, hch, hval]

/-- The encoding as a sum of fields (30_encoding.md R81). -/
theorem encode_toNat (i : Instr) :
    (encode i).toNat = (opcodeOf i).toNat + 256 * (lOf i).toNat + 65536 * (chOf i).toNat +
      4294967296 * (valOf i).toNat := by
  rw [toNat_eq_fields]
  simp

theorem ofInt_toNat_cast (n : Nat) (v : Int) : ((BitVec.ofInt n v).toNat : Int) = v % (2 : Int) ^ n := by
  rw [BitVec.toNat_ofInt]
  exact_mod_cast Int.toNat_of_nonneg (Int.emod_nonneg v (by positivity))

/-! ## The ranges of the operands -/

theorem channelFits_iff (ch : Int) : channelFits ch = true ↔ -32768 ≤ ch ∧ ch ≤ 32767 := by simp [channelFits]

theorem valueFits_iff (val : Int) : valueFits val = true ↔ -2147483648 ≤ val ∧ val ≤ 2147483647 := by simp [valueFits]

/-- The sign-extended CH field is in the range of CH (30_encoding.md R72). -/
theorem channelFits_toInt (x : BitVec 16) : channelFits x.toInt = true :=
  (channelFits_iff _).2 ⟨x.le_toInt, Int.le_of_lt_add_one x.toInt_lt⟩

/-- The sign-extended VAL field is in the range of VAL (30_encoding.md R72). -/
theorem valueFits_toInt (x : BitVec 32) : valueFits x.toInt = true :=
  (valueFits_iff _).2 ⟨x.le_toInt, Int.le_of_lt_add_one x.toInt_lt⟩

theorem toInt_ofInt_of_channelFits {ch : Int} (h : channelFits ch = true) : (BitVec.ofInt 16 ch).toInt = ch := by
  obtain ⟨hlo, hhi⟩ := (channelFits_iff ch).1 h
  exact BitVec.toInt_ofInt_eq_self (by decide) (by simpa using hlo) (by norm_num; omega)

theorem toInt_ofInt_of_valueFits {val : Int} (h : valueFits val = true) : (BitVec.ofInt 32 val).toInt = val := by
  obtain ⟨hlo, hhi⟩ := (valueFits_iff val).1 h
  exact BitVec.toInt_ofInt_eq_self (by decide) (by simpa using hlo) (by norm_num; omega)

/-! ## Decoding an encoding -/

/-- A word with a defined opcode and zero reserved fields is decoded by its opcode (30_encoding.md R75). -/
theorem decode_encode_eq_decodeOp (i : Instr) : decode (encode i) = decodeOp (encode i) := by
  have hop : ¬(opcodeOf i = 0x0#4 ∨ 0x9#4 < opcodeOf i) := by cases i <;> simp [opcodeOf]
  simp [decode, hop]

/-- Settles O2: the fields of `encode i` are those of `i`, and CH and VAL in range are their own sign extensions. -/
theorem decodeOfEncode : Obligations.DecodeOfEncode := by
  intro i hwf
  rw [decode_encode_eq_decodeOp]
  cases i with
  | setdot ch val | setgrey ch val =>
    obtain ⟨hch, hval⟩ := Bool.and_eq_true_iff.1 hwf
    simp [decodeOp, decodeSet, opcodeOf, lOf, chOf, valOf, toInt_ofInt_of_channelFits hch,
      toInt_ofInt_of_valueFits hval]
  | blank lvl => cases lvl <;> simp [decodeOp, decodeBlank, opcodeOf, lOf, chOf, valOf, levelOfField]
  | _ => simp [decodeOp, decodeBare, opcodeOf, lOf, chOf, valOf]

/-! ## Encoding what was decoded -/

/-- A word that decodes has zero reserved fields and is decoded by its opcode (30_encoding.md R75). -/
theorem decode_eq_cmd_reserved {w : Word} {i : Instr} (h : decode w = .cmd i) :
    rsv0Field w = 0#4 ∧ rsv1Field w = 0#7 ∧ decodeOp w = .cmd i := by
  unfold decode at h
  split at h
  · cases h
  · split at h
    · cases h
    · rename_i hrsv
      obtain ⟨hrsv0, hrsv1⟩ := not_or.1 hrsv
      exact ⟨not_not.1 hrsv0, not_not.1 hrsv1, h⟩

/-- What a word with two operands holds (30_encoding.md R74). -/
theorem decodeSet_eq_cmd {mk : Int → Int → Instr} {w : Word} {i : Instr} (h : decodeSet mk w = .cmd i) :
    lField w = 0#1 ∧ i = mk (chField w).toInt (valField w).toInt := by
  unfold decodeSet at h
  split at h
  · cases h
  · rename_i hl
    cases h
    exact ⟨not_not.1 hl, rfl⟩

/-- What a BLANK word holds (30_encoding.md R74). -/
theorem decodeBlank_eq_cmd {w : Word} {i : Instr} (h : decodeBlank w = .cmd i) :
    chField w = 0#16 ∧ valField w = 0#32 ∧ i = .blank (levelOfField (lField w)) := by
  unfold decodeBlank at h
  split at h
  · cases h
  · rename_i hz
    obtain ⟨hch, hval⟩ := not_or.1 hz
    cases h
    exact ⟨not_not.1 hch, not_not.1 hval, rfl⟩

/-- What a word with no operand holds (30_encoding.md R74). -/
theorem decodeBare_eq_cmd {j : Instr} {w : Word} {i : Instr} (h : decodeBare j w = .cmd i) :
    lField w = 0#1 ∧ chField w = 0#16 ∧ valField w = 0#32 ∧ i = j := by
  unfold decodeBare at h
  split at h
  · cases h
  · rename_i hz
    obtain ⟨hl, hz⟩ := not_or.1 hz
    obtain ⟨hch, hval⟩ := not_or.1 hz
    cases h
    exact ⟨not_not.1 hl, not_not.1 hch, not_not.1 hval, rfl⟩

/-- The L field of BLANK is the bit of its level (30_encoding.md R73). -/
theorem lOf_blank_levelOfField (l : BitVec 1) : lOf (.blank (levelOfField l)) = l := by
  obtain rfl | rfl := BitVec.eq_zero_or_eq_one l <;> rfl

/-! With zero reserved fields, each of the three decoders is inverted by the encoder. -/

section

variable {w : Word} {i j : Instr} (hrsv0 : rsv0Field w = 0#4) (hrsv1 : rsv1Field w = 0#7)

include hrsv0 hrsv1

theorem encode_of_decodeBare (h : decodeBare j w = .cmd i) (hop : opField w = opcodeOf j)
    (hz : lOf j = 0#1 ∧ chOf j = 0#16 ∧ valOf j = 0#32) (hwf : j.wellFormed = true) :
    i.wellFormed = true ∧ encode i = w := by
  obtain ⟨hl, hch, hval, rfl⟩ := decodeBare_eq_cmd h
  obtain ⟨zl, zch, zval⟩ := hz
  exact ⟨hwf, encode_eq_of_fields hop hrsv0 (hl.trans zl.symm) hrsv1 (hch.trans zch.symm) (hval.trans zval.symm)⟩

theorem encode_of_decodeBlank (h : decodeBlank w = .cmd i) (hop : opField w = 0x8#4) :
    i.wellFormed = true ∧ encode i = w := by
  obtain ⟨hch, hval, rfl⟩ := decodeBlank_eq_cmd h
  exact ⟨rfl, encode_eq_of_fields hop hrsv0 (lOf_blank_levelOfField _).symm hrsv1 hch hval⟩

theorem encode_of_decodeSet {mk : Int → Int → Instr} (hmk : mk = .setdot ∨ mk = .setgrey)
    (h : decodeSet mk w = .cmd i) (hop : opField w = opcodeOf (mk 0 0)) : i.wellFormed = true ∧ encode i = w := by
  obtain ⟨hl, rfl⟩ := decodeSet_eq_cmd h
  have hfit : (channelFits (chField w).toInt && valueFits (valField w).toInt) = true :=
    Bool.and_eq_true_iff.2 ⟨channelFits_toInt _, valueFits_toInt _⟩
  obtain rfl | rfl := hmk
  all_goals exact ⟨hfit, encode_eq_of_fields hop hrsv0 hl hrsv1 BitVec.ofInt_toInt.symm BitVec.ofInt_toInt.symm⟩

end

/-- Settles O3: the decoder's branch fixes all six fields of the word, and the encoder writes the same. -/
theorem encodeOfDecode : Obligations.EncodeOfDecode := by
  intro w i h
  obtain ⟨hrsv0, hrsv1, h⟩ := decode_eq_cmd_reserved h
  have bare {j : Instr} (h : decodeBare j w = .cmd i) (hop : (opField w).toNat = (opcodeOf j).toNat) :=
    encode_of_decodeBare hrsv0 hrsv1 h (BitVec.eq_of_toNat_eq hop)
  unfold decodeOp at h
  split at h <;> rename_i hop
  · exact bare h hop ⟨rfl, rfl, rfl⟩ rfl
  · exact bare h hop ⟨rfl, rfl, rfl⟩ rfl
  · exact encode_of_decodeSet hrsv0 hrsv1 (.inl rfl) h (BitVec.eq_of_toNat_eq hop)
  · exact encode_of_decodeSet hrsv0 hrsv1 (.inr rfl) h (BitVec.eq_of_toNat_eq hop)
  · exact bare h hop ⟨rfl, rfl, rfl⟩ rfl
  · exact bare h hop ⟨rfl, rfl, rfl⟩ rfl
  · exact bare h hop ⟨rfl, rfl, rfl⟩ rfl
  · exact encode_of_decodeBlank hrsv0 hrsv1 h (BitVec.eq_of_toNat_eq hop)
  · exact bare h hop ⟨rfl, rfl, rfl⟩ rfl
  · cases h

/-- The decoder, said once: a word decodes to a command just when it is that command's word and the port carries it. -/
theorem decode_eq_cmd_iff (w : Word) (i : Instr) : decode w = .cmd i ↔ i.wellFormed = true ∧ encode i = w :=
  ⟨encodeOfDecode w i, fun ⟨hwf, he⟩ => he ▸ decodeOfEncode i hwf⟩

/-! ## The words written out -/

theorem setdot_toNat (ch val : Int) : ((encode (.setdot ch val)).toNat : Int) =
    3 + 65536 * (ch % 65536) + 4294967296 * (val % 4294967296) := by
  simp [encode_toNat, opcodeOf, lOf, chOf, valOf, ofInt_toNat_cast, -BitVec.toNat_ofInt]

theorem setgrey_toNat (ch val : Int) : ((encode (.setgrey ch val)).toNat : Int) =
    4 + 65536 * (ch % 65536) + 4294967296 * (val % 4294967296) := by
  simp [encode_toNat, opcodeOf, lOf, chOf, valOf, ofInt_toNat_cast, -BitVec.toNat_ofInt]

/-- Settles O4: `encode_toNat` with the fields of each command. -/
theorem encodeIsFieldSum : Obligations.EncodeIsFieldSum :=
  ⟨fun ch val => ⟨setdot_toNat ch val, setgrey_toNat ch val⟩, by decide⟩

/-- Settles O6: each word is computed. -/
theorem exampleWordsDecode : Obligations.ExampleWordsDecode := by
  unfold Obligations.ExampleWordsDecode
  decide

end Sys2Proof

/-!
# Decoding by number and the opcode table

Both statements follow from `decode_eq_cmd_iff`: a word that is the number of an encoding decodes to its command, and a
word that decodes is the number of an encoding.
-/

namespace Sys2Proof.Machine

/-! ## Decoding by number -/

theorem decode_of_toNat {w : Word} (i : Instr) (hwf : i.wellFormed = true) (h : w.toNat = (encode i).toNat) :
    decode w = .cmd i :=
  (decode_eq_cmd_iff w i).2 ⟨hwf, BitVec.eq_of_toNat_eq h.symm⟩

theorem signExtend_toNat {n : Nat} (x : BitVec n) : signExtend n x.toNat = x.toInt := by
  cases n with
  | zero => rw [Subsingleton.elim x 0#0]; rfl
  | succ n =>
    have half : x.toNat < 2 ^ n ↔ 2 * x.toNat < 2 ^ (n + 1) := by omega
    simp [signExtend, BitVec.toInt_eq_toNat_cond, half]

/-- A word whose low half is an opcode has zero reserved and L fields. -/
theorem fields_of_low_half {w : Word} {op : BitVec 4} (h : w.toNat % 65536 = op.toNat) :
    opField w = op ∧ rsv0Field w = 0#4 ∧ lField w = 0#1 ∧ rsv1Field w = 0#7 := by
  have hw := toNat_eq_fields w
  have hop := (opField w).isLt
  have hrsv0 := (rsv0Field w).isLt
  have hl := (lField w).isLt
  have hrsv1 := (rsv1Field w).isLt
  refine ⟨BitVec.eq_of_toNat_eq ?_, BitVec.eq_of_toNat_eq ?_, BitVec.eq_of_toNat_eq ?_, BitVec.eq_of_toNat_eq ?_⟩
  · omega
  all_goals rw [BitVec.toNat_ofNat]; omega

theorem signExtend_chField (w : Word) : signExtend 16 (w.toNat / 65536 % 65536) = (chField w).toInt := by
  rw [← signExtend_toNat]
  simp [chField, BitVec.extractLsb'_toNat, Nat.shiftRight_eq_div_pow]

theorem signExtend_valField (w : Word) : signExtend 32 (w.toNat / 4294967296) = (valField w).toInt := by
  have hval : w.toNat / 4294967296 < 4294967296 := Nat.div_lt_of_lt_mul w.isLt
  rw [← signExtend_toNat]
  simp [valField, BitVec.extractLsb'_toNat, Nat.shiftRight_eq_div_pow, Nat.mod_eq_of_lt hval]

/-- A word whose low half is 3 is SETDOT (30_encoding.md R74, R75). -/
theorem decode_of_low_half_setdot {w : Word} (h : w.toNat % 65536 = 0x3) :
    decode w = .cmd (.setdot (chField w).toInt (valField w).toInt) := by
  obtain ⟨hop, hrsv0, hl, hrsv1⟩ := fields_of_low_half (op := 0x3#4) h
  simp [decode, decodeOp, decodeSet, hop, hrsv0, hl, hrsv1]

/-- A word whose low half is 4 is SETGREY (30_encoding.md R74, R75). -/
theorem decode_of_low_half_setgrey {w : Word} (h : w.toNat % 65536 = 0x4) :
    decode w = .cmd (.setgrey (chField w).toInt (valField w).toInt) := by
  obtain ⟨hop, hrsv0, hl, hrsv1⟩ := fields_of_low_half (op := 0x4#4) h
  simp [decode, decodeOp, decodeSet, hop, hrsv0, hl, hrsv1]

/-- The low half of SETDOT's word (30_encoding.md R70). -/
theorem setdot_low_half (ch val : Int) : (encode (.setdot ch val)).toNat % 65536 = 0x3 := by
  have := setdot_toNat ch val
  omega

/-- The low half of SETGREY's word (30_encoding.md R70). -/
theorem setgrey_low_half (ch val : Int) : (encode (.setgrey ch val)).toNat % 65536 = 0x4 := by
  have := setgrey_toNat ch val
  omega

/-- The words of commands are those DecodeByFields lists. -/
theorem encode_listed (i : Instr) :
    (encode i).toNat ∈ [0x1, 0x2, 0x5, 0x6, 0x7, 0x8, 0x108, 0x9] ∨ (encode i).toNat % 65536 = 0x3 ∨
      (encode i).toNat % 65536 = 0x4 := by
  cases i with
  | setdot ch val => exact .inr (.inl (setdot_low_half ch val))
  | setgrey ch val => exact .inr (.inr (setgrey_low_half ch val))
  | blank lvl => cases lvl <;> decide
  | _ => decide

/-- Settles O1: a listed word is the encoding of its command, and a word that decodes is a listed one. -/
theorem decodeByFields : Obligations.DecodeByFields := by
  intro w
  rw [signExtend_chField, signExtend_valField]
  refine ⟨decode_of_toNat .init rfl, decode_of_toNat .reset rfl, decode_of_low_half_setdot, decode_of_low_half_setgrey,
    decode_of_toNat .wrdot rfl, decode_of_toNat .wrgrey rfl, decode_of_toNat .pulse rfl,
    decode_of_toNat (.blank .low) rfl, decode_of_toNat (.blank .high) rfl, decode_of_toNat .cleanup rfl,
    fun hbare hdot hgrey => ?_⟩
  cases hd : decode w with
  | illegal why => exact ⟨why, rfl⟩
  | cmd i =>
    obtain ⟨-, rfl⟩ := (decode_eq_cmd_iff w i).1 hd
    exact ((encode_listed i).elim hbare fun h => h.elim hdot hgrey).elim

/-! ## The opcode table -/

theorem selects_iff (r : OpcodeRow) (w : Word) : r.selects w = true ↔ w &&& r.mask = r.mtch := by
  simp [OpcodeRow.selects]

/-- The bits both rows fix agree when one word matches both. -/
theorem rows_agree {r q : OpcodeRow} {w : Word} (hr : r.selects w = true) (hq : q.selects w = true) :
    r.mtch &&& q.mask = q.mtch &&& r.mask := by
  rw [selects_iff] at hr hq
  rw [← hr, ← hq, BitVec.and_assoc, BitVec.and_comm r.mask, ← BitVec.and_assoc]

/-- Two rows of the table differ in a bit that both fix (30_encoding.md, opening paragraph). -/
theorem rows_disjoint :
    ∀ r ∈ opcodeTable, ∀ q ∈ opcodeTable, r.mtch &&& q.mask = q.mtch &&& r.mask → r = q := by decide

/-- A row that fixes every bit matches its own word. -/
theorem selects_full_iff (m : String) (x w : Word) :
    (⟨m, x, 0xFFFFFFFFFFFFFFFF#64⟩ : OpcodeRow).selects w = true ↔ w = x := by
  rw [selects_iff, show 0xFFFFFFFFFFFFFFFF#64 = BitVec.allOnes 64 by decide, BitVec.and_allOnes]

/-- A row that fixes the low half matches the words with its low half. -/
theorem selects_low_half_iff (m : String) (x w : Word) :
    (⟨m, x, 0xFFFF#64⟩ : OpcodeRow).selects w = true ↔ w.toNat % 65536 = x.toNat := by
  rw [selects_iff, ← BitVec.toNat_inj, BitVec.toNat_and]
  exact Eq.congr_left (Nat.and_two_pow_sub_one_eq_mod w.toNat 16)

/-- The row of BLANK leaves L open (30_encoding.md R74). -/
theorem selects_blank_iff (m : String) (w : Word) :
    (⟨m, 0x8#64, 0xFFFFFFFFFFFFFEFF#64⟩ : OpcodeRow).selects w = true ↔ w = 0x8#64 ∨ w = 0x108#64 := by
  rw [selects_iff]
  dsimp only
  constructor
  · intro h
    have hw : w = 0x8#64 ||| w &&& BitVec.twoPow 64 8 := by
      have hmask : 0xFFFFFFFFFFFFFEFF#64 ||| BitVec.twoPow 64 8 = BitVec.allOnes 64 := by decide
      rw [← h, ← BitVec.and_or_distrib_left, hmask, BitVec.and_allOnes]
    rw [BitVec.and_twoPow] at hw
    split at hw
    · exact .inr hw
    · exact .inl hw
  · rintro (rfl | rfl) <;> decide

/-- The word of a command matches a row of its mnemonic. -/
theorem exists_row_encode (i : Instr) :
    ∃ r, r ∈ opcodeTable ∧ r.mnemonic = mnemonicOf i ∧ r.selects (encode i) = true := by
  cases i with
  | setdot ch val => exact ⟨_, by decide, rfl, (selects_low_half_iff "SETDOT" 0x3#64 _).2 (setdot_low_half ch val)⟩
  | setgrey ch val => exact ⟨_, by decide, rfl, (selects_low_half_iff "SETGREY" 0x4#64 _).2 (setgrey_low_half ch val)⟩
  | blank lvl => cases lvl <;> decide
  | _ => decide

/-- A word that matches a row is a word of the row's mnemonic. -/
theorem decode_of_selects {r : OpcodeRow} {w : Word} (hr : r ∈ opcodeTable) (hs : r.selects w = true) :
    ∃ i, decode w = .cmd i ∧ mnemonicOf i = r.mnemonic := by
  have bare {i : Instr} (hwf : i.wellFormed = true)
      (hs : (⟨mnemonicOf i, encode i, 0xFFFFFFFFFFFFFFFF#64⟩ : OpcodeRow).selects w = true) :
      ∃ j, decode w = .cmd j ∧ mnemonicOf j = mnemonicOf i :=
    ⟨i, (decode_eq_cmd_iff w i).2 ⟨hwf, ((selects_full_iff _ _ w).1 hs).symm⟩, rfl⟩
  simp only [opcodeTable, List.mem_cons, List.not_mem_nil, or_false] at hr
  obtain rfl | rfl | rfl | rfl | rfl | rfl | rfl | rfl | rfl := hr
  · exact bare (i := .init) rfl hs
  · exact bare (i := .reset) rfl hs
  · exact ⟨_, decode_of_low_half_setdot ((selects_low_half_iff _ _ w).1 hs), rfl⟩
  · exact ⟨_, decode_of_low_half_setgrey ((selects_low_half_iff _ _ w).1 hs), rfl⟩
  · exact bare (i := .wrdot) rfl hs
  · exact bare (i := .wrgrey) rfl hs
  · exact bare (i := .pulse) rfl hs
  · obtain rfl | rfl := (selects_blank_iff _ w).1 hs
    · exact ⟨.blank .low, decodeOfEncode (.blank .low) rfl, rfl⟩
    · exact ⟨.blank .high, decodeOfEncode (.blank .high) rfl, rfl⟩
  · exact bare (i := .cleanup) rfl hs

/-- Settles O5: two rows that match one word are one row, and `decode_eq_cmd_iff` ties its words to its command. -/
theorem decodeSelectsOpcodeRow : Obligations.DecodeSelectsOpcodeRow := by
  refine ⟨fun w r q hr hq hrw hqw => rows_disjoint r hr q hq (rows_agree hrw hqw), fun w i hd => ?_,
    fun w r hr hs => decode_of_selects hr hs⟩
  obtain ⟨-, rfl⟩ := (decode_eq_cmd_iff w i).1 hd
  exact exists_row_encode i

end Sys2Proof.Machine

/-!
# The frames on the wire

`concatValues` puts its first value highest, so bit `w c + j` of the frame of sixteen slots is bit `j` of slot `15 - c`.
The shift order counts the same bits from the top. The two frames are the widths 6 and 12 of one `w`.
-/

namespace Sys2Proof.Machine

/-! ## The bits of a frame -/

theorem concatValues_append_singleton (w n : Nat) (vs : List Nat) (v : Nat) :
    concatValues w n (vs ++ [v]) = (concatValues w n vs <<< w) ||| BitVec.ofNat n v := by
  simp [concatValues]

/-- The last value stands lowest, each value in `w` bits. -/
theorem concatValues_getLsbD {w n : Nat} (hw : 0 < w) {vs : List Nat} (hvs : ∀ v ∈ vs, v < 2 ^ w) {i : Nat}
    (hi : i < n) :
    (concatValues w n vs).getLsbD i = (vs.reverse.getD (i / w) 0).testBit (i % w) := by
  induction vs using List.reverseRecOn generalizing i with
  | nil => simp [concatValues]
  | append_singleton vs v ih =>
    have hv : v < 2 ^ w := hvs v (by simp)
    rw [concatValues_append_singleton, BitVec.getLsbD_or, BitVec.getLsbD_shiftLeft, BitVec.getLsbD_ofNat,
      List.reverse_concat]
    obtain hlt | hge := Nat.lt_or_ge i w
    · simp [hlt, hi, Nat.div_eq_of_lt hlt, Nat.mod_eq_of_lt hlt]
    · obtain ⟨k, rfl⟩ := Nat.exists_eq_add_of_le hge
      have hzero : v.testBit (w + k) = false :=
        Nat.testBit_lt_two_pow (hv.trans_le (Nat.pow_le_pow_right (by decide) (Nat.le_add_right w k)))
      rw [Nat.add_sub_cancel_left, ih (fun x hx => hvs x (by simp [hx])) (by omega)]
      simp [hi, hzero, Nat.add_div_left k hw]

section Frame

variable {w n : Nat} (f : Vector (BitVec w) 16) {s c j : Nat}

theorem slotValues_reverse_getD (hc : c < 16) : (slotValues f).reverse.getD c 0 = f[15 - c].toNat := by
  simp [slotValues, hc]

/-- Channel `c` is `w` bits from bit `w c` on, and is slot `15 - c` (30_encoding.md R79). -/
theorem frame_channel_bit (hn : w * 16 ≤ n) (hc : c < 16) (hj : j < w) :
    (concatValues w n (slotValues f)).getLsbD (w * c + j) = f[15 - c].getLsbD j := by
  have hw : 0 < w := Nat.zero_lt_of_lt hj
  have hi : w * c + j < n := by
    have := Nat.mul_le_mul_left w (Nat.succ_le_of_lt hc)
    rw [Nat.mul_succ] at this
    omega
  rw [concatValues_getLsbD hw (slotValues_lt f) hi, Nat.mul_add_div hw, Nat.div_eq_of_lt hj, Nat.mul_add_mod,
    Nat.mod_eq_of_lt hj, Nat.add_zero, slotValues_reverse_getD f hc, BitVec.testBit_toNat]

/-- The field of channel `c` is slot `15 - c` (30_encoding.md R79). -/
theorem frame_channel (hn : w * 16 ≤ n) (hc : c < 16) :
    (concatValues w n (slotValues f)).extractLsb' (w * c) w = f[15 - c] := by
  refine BitVec.eq_of_getLsbD_eq fun j hj => ?_
  rw [BitVec.getLsbD_extractLsb', frame_channel_bit f hn hc hj, decide_eq_true hj, Bool.true_and]

/-- Bit `w s + j` in shift order is bit `w - 1 - j` of slot `s` (30_encoding.md R77, R78). -/
theorem frame_shiftOrder_bit (hn : w * 16 ≤ n) (hs : s < 16) (hj : j < w) :
    (concatValues w n (slotValues f)).getLsbD (w * 16 - 1 - (w * s + j)) = f[s].getLsbD (w - 1 - j) := by
  obtain ⟨c, hc⟩ := Nat.exists_eq_add_of_le (Nat.le_of_lt_succ hs)
  have hidx : w * 16 - 1 - (w * s + j) = w * c + (w - 1 - j) := by
    have : w * 16 = w * s + w * c + w := by rw [show 16 = s + c + 1 by omega]; ring
    omega
  rw [hidx, frame_channel_bit f hn (by omega) (by omega)]
  simp only [show 15 - c = s by omega]

/-- The `k`-th shifted bit of the slots is the `k`-th bit of their frame in shift order. -/
theorem slotValues_shifted_bit (hn : w * 16 ≤ n) {k : Nat} (hk : k < w * 16) :
    ((slotValues f).getD (k / w) 0).testBit (w - 1 - k % w) =
      (concatValues w n (slotValues f)).getLsbD (w * 16 - 1 - k) := by
  have hw : 0 < w := Nat.pos_of_mul_pos_right (Nat.zero_lt_of_lt hk)
  have hs : k / w < 16 := Nat.div_lt_of_lt_mul hk
  have hk' : k = w * (k / w) + k % w := (Nat.div_add_mod k w).symm
  rw [slotValues_getD f _ hs, BitVec.testBit_toNat, ← frame_shiftOrder_bit f hn hs (Nat.mod_lt k hw), ← hk']

end Frame

/-! ## The two frames -/

/-- WRGREY's triples stand between PROG LOW and the LATCH pulse (43_serial_writes.md R153). -/
theorem wrgreyEvents_triples (g : List Nat) :
    ShiftTriples (wrgreyEvents g) 1 (12 * g.length) fun k => (g.getD (k / 12) 0).testBit (11 - k % 12) :=
  ((shiftOut_triples g 12).append_left [.write .prog .low]).append_right (pulseOf .latch)

/-- WRDOT shifts the dot-correction frame, highest bit first (30_encoding.md R77). -/
theorem wrdotEvents_frame_triples (d : Vector (BitVec 6) 16) :
    ShiftTriples (wrdotEvents (slotValues d)) 1 96 fun k => (dotFrame d).getLsbD (95 - k) := by
  have h := wrdotEvents_triples (slotValues d)
  rw [slotValues_length] at h
  exact h.congr fun k hk => (slotValues_shifted_bit d (by decide) hk).symm

/-- WRGREY shifts the grayscale frame, highest bit first (30_encoding.md R78). -/
theorem wrgreyEvents_frame_triples (g : Vector (BitVec 12) 16) :
    ShiftTriples (wrgreyEvents (slotValues g)) 1 192 fun k => (greyFrame g).getLsbD (191 - k) := by
  have h := wrgreyEvents_triples (slotValues g)
  rw [slotValues_length] at h
  exact h.congr fun k hk => (slotValues_shifted_bit g (by decide) hk).symm

/-- Settles O7: the frame's bits at width 6, and WRDOT's triples in shift order. -/
theorem dotFrameLayout : Obligations.DotFrameLayout := fun d =>
  ⟨fun _ _ hs hj => frame_shiftOrder_bit d (by decide) hs hj, fun k hk => (wrdotEvents_frame_triples d k hk).1,
    fun _ hc => frame_channel d (by decide) hc⟩

/-- Settles O8: the frame's bits at width 12, and WRGREY's triples in shift order. -/
theorem greyFrameLayout : Obligations.GreyFrameLayout := fun g =>
  ⟨fun _ _ hs hj => frame_shiftOrder_bit g (by decide) hs hj, fun k hk => (wrgreyEvents_frame_triples g k hk).1,
    fun _ hc => frame_channel g (by decide) hc⟩

end Sys2Proof.Machine

/-!
# The assembler's numbers

`Nat.toDigits` is built from the last digit, so `digitsValue` is read the same way.
-/

namespace Sys2Proof.Machine

/-! ## Digits -/

theorem digitValue_hex_digitChar : ∀ d < 16, digitValue 16 (Nat.digitChar d) = some d := by decide

theorem digitValue_decimal_digitChar : ∀ d < 10, digitValue 10 (Nat.digitChar d) = some d := by decide

theorem digitsValue_append_singleton (base acc : Nat) (cs : List Char) (c : Char) :
    digitsValue base acc (cs ++ [c]) =
      (digitsValue base acc cs).bind fun v => (digitValue base c).map fun d => v * base + d := by
  induction cs generalizing acc with
  | nil => cases hc : digitValue base c <;> simp [digitsValue, hc]
  | cons x xs ih => cases hx : digitValue base x <;> simp [digitsValue, hx, ih]

/-- A base whose digits are read back one by one has its numbers read back. -/
theorem parseDigits_toDigits {base : Nat} (hbase : 1 < base)
    (hdigit : ∀ d < base, digitValue base (Nat.digitChar d) = some d) (n : Nat) :
    parseDigits base (Nat.toDigits base n) = some n := by
  have hvalue : digitsValue base 0 (Nat.toDigits base n) = some n := by
    induction n using Nat.strongRecOn with
    | ind n ih =>
      obtain hlt | hge := Nat.lt_or_ge n base
      · simp [Nat.toDigits_of_lt_base hlt, digitsValue, hdigit n hlt]
      · have hrest : n / base < n := Nat.div_lt_self (by omega) hbase
        have hlast := hdigit (n % base) (Nat.mod_lt n (by omega))
        simp [Nat.toDigits_of_base_le hbase hge, digitsValue_append_singleton, ih _ hrest, hlast, Nat.div_add_mod']
  simp [parseDigits, hvalue, Nat.toDigits_ne_nil]

/-! ## Integers -/

theorem isDigit_of_mem_decimal {n : Nat} {c : Char} (h : c ∈ Nat.toDigits 10 n) : c.isDigit = true :=
  Nat.isDigit_of_mem_toDigits (by decide) (by decide) h

/-- Decimal digits are not taken for hexadecimal: none of them is an `x`. -/
theorem parseNat_decimal (n : Nat) : parseNat (Nat.toDigits 10 n) = some n := by
  have hx : (Nat.toDigits 10 n).take 2 ≠ ['0', 'x'] := by
    intro h
    have hmem : 'x' ∈ (Nat.toDigits 10 n).take 2 := by simp [h]
    exact absurd (isDigit_of_mem_decimal (List.mem_of_mem_take hmem)) (by decide)
  rw [parseNat, if_neg hx, parseDigits_toDigits (by decide) digitValue_decimal_digitChar]

theorem parseNat_hex (n : Nat) : parseNat ('0' :: 'x' :: Nat.toDigits 16 n) = some n :=
  parseDigits_toDigits (by decide) digitValue_hex_digitChar n

theorem parseInt_minus {cs : List Char} {n : Nat} (h : parseNat cs = some n) :
    parseInt ('-' :: cs) = some (-(n : Int)) := by
  simp [parseInt, h]

theorem parseInt_unsigned {cs : List Char} {n : Nat} (h : parseNat cs = some n) (hminus : cs.head? ≠ some '-') :
    parseInt cs = some (n : Int) := by
  simp [parseInt, h, hminus]

/-- Settles O11: no decimal digit is a minus, and a leading `0` is none. -/
theorem assemblerReadsIntegers : Obligations.AssemblerReadsIntegers := by
  intro n
  have hminus : (Nat.toDigits 10 n).head? ≠ some '-' := fun h =>
    absurd (isDigit_of_mem_decimal (List.mem_of_mem_head? h)) (by decide)
  exact ⟨parseInt_unsigned (parseNat_decimal n) hminus, parseInt_minus (parseNat_decimal n),
    parseInt_unsigned (parseNat_hex n) (by simp), parseInt_minus (parseNat_hex n)⟩

end Sys2Proof.Machine

/-!
# The assembler's lines

`assembleLine` on a line of plain words: a mnemonic alone, with one operand, or with two. That an integer's text is a
plain word follows from `parseInt` reading it.
-/

namespace Sys2Proof.Machine

/-! ## Comments -/

theorem stripComment_append_comment (line comment : List Char) :
    stripComment (line ++ ';' :: comment) = stripComment line := by
  induction line with
  | nil => rfl
  | cons c cs ih =>
    rw [stripComment, stripComment] at ih
    simp [stripComment, List.takeWhile_cons, ih]

/-- A line is read through `stripComment` alone. -/
theorem assembleLine_congr {a b : List Char} (h : stripComment a = stripComment b) :
    assembleLine a = assembleLine b := by
  simp only [assembleLine, h]

/-! ## Every command given can be presented -/

theorem fits_eq_some {is js : List Instr} (h : fits is = some js) : js.all Instr.wellFormed = true := by
  unfold fits at h
  split at h
  · cases h
    assumption
  · cases h

theorem assembleBare_fits {m : List Char} {is : List Instr} (h : assembleBare m = some is) :
    is.all Instr.wellFormed = true := by
  unfold assembleBare at h
  repeat' split at h
  all_goals cases h <;> rfl

theorem assembleOne_fits {m a : List Char} {is : List Instr} (h : assembleOne m a = some is) :
    is.all Instr.wellFormed = true := by
  unfold assembleOne at h
  split at h
  · obtain ⟨l, -, rfl⟩ := Option.map_eq_some_iff.1 h
    rfl
  · split at h
    · obtain ⟨v, -, hv⟩ := Option.bind_eq_some_iff.1 h
      exact fits_eq_some hv
    · split at h
      · obtain ⟨v, -, hv⟩ := Option.bind_eq_some_iff.1 h
        exact fits_eq_some hv
      · cases h

theorem assembleTwo_fits {m a b : List Char} {is : List Instr} (h : assembleTwo m a b = some is) :
    is.all Instr.wellFormed = true := by
  unfold assembleTwo at h
  split at h
  · split at h
    · exact fits_eq_some h
    · split at h
      · exact fits_eq_some h
      · cases h
  · cases h

theorem assembleLine_fits {line : List Char} {is : List Instr} (h : assembleLine line = some is) :
    is.all Instr.wellFormed = true := by
  simp only [assembleLine] at h
  split at h
  · cases h
    rfl
  · split at h
    · exact assembleBare_fits h
    · split at h
      · exact assembleOne_fits h
      · exact assembleTwo_fits h
      · cases h

/-- Settles O9: every form is checked by `fits` or has no operand, and `decodeOfEncode` decodes what fits. -/
theorem assemblerGivesPresentableCommands : Obligations.AssemblerGivesPresentableCommands := by
  refine ⟨fun line is h i hi => ?_, fun line comment => assembleLine_congr (stripComment_append_comment line comment)⟩
  have hwf := List.all_eq_true.1 (assembleLine_fits h) i hi
  exact ⟨hwf, decodeOfEncode i hwf⟩

/-! ## Words -/

/-- A character that neither parts words nor starts a comment. -/
def plainChar (c : Char) : Bool := !isBlankChar c && c != ',' && c != ';'

/-- A non-empty word of plain characters: a mnemonic or an operand. -/
def plainWord (cs : List Char) : Bool := !cs.isEmpty && cs.all plainChar

theorem plainWord_iff (cs : List Char) : plainWord cs = true ↔ cs ≠ [] ∧ ∀ c ∈ cs, plainChar c = true := by
  simp [plainWord]

theorem plainChar_iff (c : Char) : plainChar c = true ↔ isBlankChar c = false ∧ c ≠ ',' ∧ c ≠ ';' := by
  simp [plainChar, and_assoc]

theorem digitValue_plainChar {base : Nat} {c : Char} {d : Nat} (h : digitValue base c = some d) :
    plainChar c = true := by
  by_contra hplain
  have hc : c = ' ' ∨ c = '\t' ∨ c = ',' ∨ c = ';' := by
    simp only [plainChar_iff, isBlankChar, Bool.or_eq_false_iff, beq_eq_false_iff_ne] at hplain
    tauto
  obtain rfl | rfl | rfl | rfl := hc
  all_goals cases h

theorem digitsValue_plainChar {base acc v : Nat} {cs : List Char} (h : digitsValue base acc cs = some v) :
    ∀ c ∈ cs, plainChar c = true := by
  induction cs generalizing acc with
  | nil => simp
  | cons x xs ih =>
    unfold digitsValue at h
    split at h
    · rename_i d hd
      exact List.forall_mem_cons.2 ⟨digitValue_plainChar hd, ih h⟩
    · cases h

theorem parseDigits_plainWord {base v : Nat} {cs : List Char} (h : parseDigits base cs = some v) :
    plainWord cs = true := by
  unfold parseDigits at h
  split at h
  · cases h
  · rename_i hne
    exact (plainWord_iff cs).2 ⟨by simpa using hne, digitsValue_plainChar h⟩

theorem plainWord_append {a b : List Char} (ha : plainWord a = true) (hb : plainWord b = true) :
    plainWord (a ++ b) = true := by
  rw [plainWord_iff] at *
  exact ⟨by simp [ha.1], fun c hc => (List.mem_append.1 hc).elim (ha.2 c) (hb.2 c)⟩

theorem parseNat_plainWord {cs : List Char} {n : Nat} (h : parseNat cs = some n) : plainWord cs = true := by
  unfold parseNat at h
  split at h
  · rename_i hx
    rw [← List.take_append_drop 2 cs, hx]
    exact plainWord_append rfl (parseDigits_plainWord h)
  · exact parseDigits_plainWord h

/-- What `parseInt` reads is one plain word. -/
theorem parseInt_plainWord {cs : List Char} {x : Int} (h : parseInt cs = some x) : plainWord cs = true := by
  unfold parseInt at h
  split at h
  · rename_i hminus
    obtain ⟨n, hn, -⟩ := Option.map_eq_some_iff.1 h
    rw [← List.cons_head?_tail hminus]
    exact plainWord_append (a := ['-']) rfl (parseNat_plainWord hn)
  · obtain ⟨n, hn, -⟩ := Option.map_eq_some_iff.1 h
    exact parseNat_plainWord hn

/-! ## A line of plain words -/

/-- `cs` is not empty and has no blank at either end. -/
def Trimmed (cs : List Char) : Prop :=
  ∃ h : cs ≠ [], isBlankChar (cs.head h) = false ∧ isBlankChar (cs.getLast h) = false

theorem Trimmed.of_plainWord {cs : List Char} (h : plainWord cs = true) : Trimmed cs := by
  obtain ⟨hne, hall⟩ := (plainWord_iff cs).1 h
  have hblank (c : Char) (hc : c ∈ cs) : isBlankChar c = false := ((plainChar_iff c).1 (hall c hc)).1
  exact ⟨hne, hblank _ (List.head_mem hne), hblank _ (List.getLast_mem hne)⟩

/-- Trimming concerns the ends alone. -/
theorem Trimmed.between {a b : List Char} (ha : Trimmed a) (mid : List Char) (hb : Trimmed b) :
    Trimmed (a ++ mid ++ b) := by
  obtain ⟨hane, hhead, -⟩ := ha
  obtain ⟨hbne, -, hlast⟩ := hb
  refine ⟨by simp [hane], ?_, ?_⟩
  · simpa [List.head_append_of_ne_nil, hane] using hhead
  · simpa [List.getLast_append_of_ne_nil, hbne] using hlast

theorem trimBlanks_eq_self {cs : List Char} (h : Trimmed cs) : trimBlanks cs = cs := by
  obtain ⟨hne, hhead, hlast⟩ := h
  have hdrop : cs.dropWhile isBlankChar = cs := List.dropWhile_eq_self_iff.2 fun hl => by
    simpa [List.head_eq_getElem] using hhead
  have hrdrop : cs.rdropWhile isBlankChar = cs := List.rdropWhile_eq_self_iff.2 fun hl => by simpa using hlast
  rw [trimBlanks, hdrop]
  exact hrdrop

theorem stripComment_eq_self {cs : List Char} (h : ';' ∉ cs) : stripComment cs = cs :=
  List.takeWhile_eq_self_iff.2 fun c hc => by
    have : c ≠ ';' := fun he => h (he ▸ hc)
    simpa using this

theorem splitCommas_of_no_comma {cs : List Char} (h : ',' ∉ cs) : splitCommas cs = [cs] := by
  induction cs with
  | nil => rfl
  | cons c cs ih =>
    obtain ⟨hc, hcs⟩ := not_or.1 (List.mem_cons.not.1 h)
    simp [splitCommas, ih hcs, Ne.symm hc]

theorem splitCommas_append_comma {a : List Char} (h : ',' ∉ a) (b : List Char) :
    splitCommas (a ++ ',' :: b) = a :: splitCommas b := by
  induction a with
  | nil => rfl
  | cons c cs ih =>
    obtain ⟨hc, hcs⟩ := not_or.1 (List.mem_cons.not.1 h)
    simp [splitCommas, ih hcs, Ne.symm hc]

theorem plainWord_not_mem {cs : List Char} (h : plainWord cs = true) : ',' ∉ cs ∧ ';' ∉ cs :=
  have hall := ((plainWord_iff cs).1 h).2
  ⟨fun hc => absurd (hall _ hc) (by decide), fun hc => absurd (hall _ hc) (by decide)⟩

/-- A mnemonic alone. -/
theorem assembleLine_bare {m : List Char} (hm : plainWord m = true) : assembleLine m = assembleBare m := by
  obtain ⟨hne, hall⟩ := (plainWord_iff m).1 hm
  have hword : m.takeWhile (!isBlankChar ·) = m := List.takeWhile_eq_self_iff.2 fun c hc => by
    simp [((plainChar_iff c).1 (hall c hc)).1]
  have hbody : trimBlanks (stripComment m) = m := by
    rw [stripComment_eq_self (plainWord_not_mem hm).2, trimBlanks_eq_self (Trimmed.of_plainWord hm)]
  have hrest : trimBlanks (m.drop m.length) = [] := by rw [List.drop_length]; rfl
  simp only [assembleLine, hbody, hword, hrest]
  simp [hne]

/-- A mnemonic, a blank and operands: how `assembleLine` parts them. -/
theorem assembleLine_parts {m ops : List Char} (hm : plainWord m = true) (hops : Trimmed ops) (hsemi : ';' ∉ ops) :
    trimBlanks (stripComment (m ++ ' ' :: ops)) = m ++ ' ' :: ops ∧
      (m ++ ' ' :: ops).takeWhile (!isBlankChar ·) = m ∧ trimBlanks ((m ++ ' ' :: ops).drop m.length) = ops := by
  obtain ⟨-, hall⟩ := (plainWord_iff m).1 hm
  refine ⟨?_, ?_, ?_⟩
  · have hline : Trimmed (m ++ ' ' :: ops) := by
      simpa using (Trimmed.of_plainWord hm).between [' '] hops
    rw [stripComment_eq_self (by simp [hsemi, (plainWord_not_mem hm).2]), trimBlanks_eq_self hline]
  · rw [List.takeWhile_append_of_pos fun c hc => by simp [((plainChar_iff c).1 (hall c hc)).1]]
    simp [isBlankChar]
  · rw [List.drop_left]
    exact trimBlanks_eq_self hops

/-- A mnemonic with one operand. -/
theorem assembleLine_one {m a : List Char} (hm : plainWord m = true) (ha : plainWord a = true) :
    assembleLine (m ++ [' '] ++ a) = assembleOne m a := by
  rw [List.append_assoc, List.singleton_append]
  have hops := Trimmed.of_plainWord ha
  obtain ⟨hcomma, hsemi⟩ := plainWord_not_mem ha
  obtain ⟨hbody, hword, hrest⟩ := assembleLine_parts hm hops hsemi
  have hsplit : (splitCommas a).map trimBlanks = [a] := by
    simp [splitCommas_of_no_comma hcomma, trimBlanks_eq_self hops]
  simp only [assembleLine, hbody, hword, hrest, hsplit]
  simp [hops.1]

/-- A mnemonic with two operands. -/
theorem assembleLine_two {m a b : List Char} (hm : plainWord m = true) (ha : plainWord a = true)
    (hb : plainWord b = true) : assembleLine (m ++ [' '] ++ a ++ [',', ' '] ++ b) = assembleTwo m a b := by
  have hline : m ++ [' '] ++ a ++ [',', ' '] ++ b = m ++ ' ' :: (a ++ ',' :: ' ' :: b) := by simp
  rw [hline]
  have hops : Trimmed (a ++ ',' :: ' ' :: b) := by
    simpa using (Trimmed.of_plainWord ha).between [',', ' '] (Trimmed.of_plainWord hb)
  obtain ⟨hacomma, hasemi⟩ := plainWord_not_mem ha
  obtain ⟨hbcomma, hbsemi⟩ := plainWord_not_mem hb
  obtain ⟨hbody, hword, hrest⟩ := assembleLine_parts hm hops (by simp [hasemi, hbsemi])
  have hblank : trimBlanks (' ' :: b) = b := trimBlanks_eq_self (Trimmed.of_plainWord hb)
  have hsplit : (splitCommas (a ++ ',' :: ' ' :: b)).map trimBlanks = [a, b] := by
    rw [splitCommas_append_comma hacomma, splitCommas_of_no_comma (by simp [hbcomma])]
    simp [hblank, trimBlanks_eq_self (Trimmed.of_plainWord ha)]
  simp only [assembleLine, hbody, hword, hrest, hsplit]
  simp

/-! ## Each form -/

/-- Operands the port cannot carry give no command (30_encoding.md R81). -/
theorem fits_singleton {i : Instr} {x y : Int} (hwf : i.wellFormed = (channelFits x && valueFits y)) :
    fits [i] = if -32768 ≤ x ∧ x ≤ 32767 ∧ -2147483648 ≤ y ∧ y ≤ 2147483647 then some [i] else none := by
  have hiff : [i].all Instr.wellFormed = true ↔ -32768 ≤ x ∧ x ≤ 32767 ∧ -2147483648 ≤ y ∧ y ≤ 2147483647 := by
    rw [List.all_cons, List.all_nil, Bool.and_true, hwf, Bool.and_eq_true_iff, channelFits_iff, valueFits_iff,
      and_assoc]
  exact if_congr hiff rfl rfl

/-- The channels 0 to 15 fit, so the value decides (30_encoding.md R82). -/
theorem fits_allChannels {mk : Int → Int → Instr} {v : Int}
    (hwf : ∀ c, (mk c v).wellFormed = (channelFits c && valueFits v)) :
    fits ((List.range 16).map fun c : Nat => mk c v) =
      if -2147483648 ≤ v ∧ v ≤ 2147483647 then some ((List.range 16).map fun c : Nat => mk c v) else none := by
  have hiff : ((List.range 16).map fun c : Nat => mk c v).all Instr.wellFormed = true ↔
      -2147483648 ≤ v ∧ v ≤ 2147483647 := by
    rw [← valueFits_iff, List.all_eq_true]
    refine ⟨fun h => ?_, fun h i hi => ?_⟩
    · have hzero := h (mk 0 v) (List.mem_map.2 ⟨0, by decide, rfl⟩)
      rw [hwf] at hzero
      exact (Bool.and_eq_true_iff.1 hzero).2
    · obtain ⟨c, hc, rfl⟩ := List.mem_map.1 hi
      have hc := List.mem_range.1 hc
      rw [hwf, h, Bool.and_true, channelFits_iff]
      omega
  exact if_congr hiff rfl rfl

/-- The form of a line with two operands that are integers. -/
theorem assembleTwo_of_parseInt {a b : List Char} {x y : Int} (ha : parseInt a = some x) (hb : parseInt b = some y) :
    assembleTwo ['S', 'E', 'T', 'D', 'O', 'T'] a b = fits [.setdot x y] ∧
      assembleTwo ['S', 'E', 'T', 'G', 'R', 'E', 'Y'] a b = fits [.setgrey x y] := by
  simp [assembleTwo, ha, hb]

/-- The form of a line with one operand that is an integer. -/
theorem assembleOne_of_parseInt {a : List Char} {v : Int} (ha : parseInt a = some v) :
    assembleOne ['S', 'E', 'T', 'A', 'L', 'L', 'D', 'O', 'T'] a = fits (pseudoSetAllDot v) ∧
      assembleOne ['S', 'E', 'T', 'A', 'L', 'L', 'G', 'R', 'E', 'Y'] a = fits (pseudoSetAllGrey v) := by
  simp [assembleOne, ha]

/-- Settles O10: an integer's text is a plain word, so the line's form decides and `fits` checks the ranges. -/
theorem assemblerReadsEachForm : Obligations.AssemblerReadsEachForm := by
  refine ⟨fun a b x y ha hb => ?_, fun a v ha => ?_, by decide, by decide, by decide, by decide, by decide, by decide,
    by decide, by decide, by decide, by decide⟩
  · obtain ⟨hdot, hgrey⟩ := assembleTwo_of_parseInt ha hb
    have hline (m : List Char) (hm : plainWord m = true) :=
      assembleLine_two hm (parseInt_plainWord ha) (parseInt_plainWord hb)
    exact ⟨(hline ['S', 'E', 'T', 'D', 'O', 'T'] rfl).trans (hdot.trans (fits_singleton rfl)),
      (hline ['S', 'E', 'T', 'G', 'R', 'E', 'Y'] rfl).trans (hgrey.trans (fits_singleton rfl))⟩
  · obtain ⟨hdot, hgrey⟩ := assembleOne_of_parseInt ha
    have hline (m : List Char) (hm : plainWord m = true) := assembleLine_one hm (parseInt_plainWord ha)
    exact ⟨(hline ['S', 'E', 'T', 'A', 'L', 'L', 'D', 'O', 'T'] rfl).trans (hdot.trans (fits_allChannels fun _ => rfl)),
      (hline ['S', 'E', 'T', 'A', 'L', 'L', 'G', 'R', 'E', 'Y'] rfl).trans
        (hgrey.trans (fits_allChannels fun _ => rfl))⟩

end Sys2Proof.Machine

/-!
# One step of the sequencer

What a step does in each branch of 40_sequencer.md R100, as the statements of that file say it: the presented command, the
idle step, the cancel, and an event answered OK or FAIL.
-/

namespace Sys2Proof.Machine

/-! ## A presented command and the idle step -/

/-- A legal word sampled at an idle block is executed (40_sequencer.md R100, R101). -/
theorem step_of_presented {s : State} {w : Word} {i : Instr} (hq : s.queue = []) (hd : decode w = .cmd i)
    (h : s.presented w) : step s = exec i s.dropInput := by
  obtain ⟨hp, hr, hc, hv, rfl⟩ := h
  simp [step, stepOn, hr, hp, hc, hv, presentWord, State.busy, hq, acceptWord, hd]

/-- A word of 64 bits is presented whole. -/
theorem withFetchWord_toNat (s : State) (w : Word) : s.withFetchWord 64 w.toNat = presentNext w s := by
  simp [State.withFetchWord, Nat.mod_eq_of_lt w.isLt]

/-- The word put on the command port is what the next step samples (40_sequencer.md R100). -/
theorem presentNext_presented {s : State} (hp : s.phase ≠ .fault) (w : Word) : (presentNext w s).presented w :=
  ⟨hp, rfl, fun h => Bool.false_ne_true h.1, rfl, rfl⟩

/-- Settles O12: `step_of_presented`, for the host's sample and for the one `withFetchWord` puts in its place. -/
theorem stepRunsDecodedCommand : Obligations.StepRunsDecodedCommand := by
  intro s w i hq hp hd
  refine ⟨step_of_presented hq hd, ?_⟩
  rw [withFetchWord_toNat]
  exact step_of_presented (s := presentNext w s) hq hd (presentNext_presented hp w)

/-- Settles O13: in FAULT and out of it, the step without a command, a cancel or an event to make is the last branch. -/
theorem idleStepChangesNothing : Obligations.IdleStepChangesNothing := by
  intro s hq hr hv hc
  show step s = .next s.dropInput
  by_cases hp : s.phase = .fault
  · simp [step, stepOn, hr, hp]
  · simp [step, stepOn, hr, hp, hc, hv, State.busy, hq]

/-! ## Cancel -/

/-- A cancel sampled in READY is taken (40_sequencer.md R107). -/
theorem step_of_cancel {s : State} (hp : s.phase = .ready) (hr : s.sampled.rst = none)
    (hc : s.sampled.cancel = true) : step s = .next (cancelStep s.dropInput) := by
  simp [step, stepOn, hr, hp, hc]

/-- Outside READY the cancel input is not looked at (40_sequencer.md R107). -/
theorem stepOn_ignores_cancel {s : State} (hp : s.phase ≠ .ready) (h : HostInput) :
    stepOn h s = stepOn { h with cancel := false } s := by
  simp [stepOn, hp]

/-- Settles O14: the taken cancel is `cancelStep`, which loses at most the frame in SR. -/
theorem cancelStopsReadyBlock : Obligations.CancelStopsReadyBlock := by
  refine ⟨fun s hp hr hc => ⟨_, step_of_cancel hp hr hc, ?_, ?_⟩, fun s h rest hi hp => ?_⟩
  · exact cancelStep_eq _
  · rw [cancelStep_chip]
    exact loseFrame_chip s.dropInput
  · have hsample : step s = stepOn h s.dropInput := by simp [step, State.sampled, hi]
    have hdrop : s.dropInput = { s with inputs := rest } := by simp [State.dropInput, hi]
    rw [hsample, stepOn_ignores_cancel (s := s.dropInput) hp, hdrop]
    rfl

/-! ## An event answered OK -/

theorem RoleFile.get_set {α : Type} (f : RoleFile α) (r q : Role) (v : α) :
    (f.set r v).get q = if q = r then v else f.get q := by
  split
  · next h => rw [h, get_set_same]
  · next h => exact get_set_ne f r q v h

theorem lineLevelOf_eq_ite (l : Level) : lineLevelOf l = if l = .high then .high else .low := by cases l <;> rfl

/-- The sequencer's advance and the frame of an event answered OK; CFG, LEVEL, the ghosts, the chip and the counter of
free values are in `emitOk_cfg` and the lemmas beside it (40_sequencer.md R104, R106). -/
theorem emitOk_eq (e : Event) (rest : List Event) (s : State) :
    emitOk e rest s =
      { s with
        trace := s.trace ++ [e]
        queue := rest
        cur := if rest = [] then none else s.cur
        idx := if rest = [] then 0#14 else s.idx + 1
        cfg := (emitOk e rest s).cfg
        level := (emitOk e rest s).level
        glc := (emitOk e rest s).glc
        dlc := (emitOk e rest s).dlc
        chip := (emitOk e rest s).chip
        draws := (emitOk e rest s).draws } := by
  cases rest <;> rfl

/-- Settles O16: the step is `emitOk`; CFG and LEVEL move as `cfgAfter` and `levelsAfter` say for each kind of event. -/
theorem emissionAnsweredOk : Obligations.EmissionAnsweredOk := by
  intro s e rest hemit hcfg hans
  refine ⟨_, step_of_emitting_ok hemit hcfg hans, emitOk_eq .., ?_⟩
  rw [emitOk_cfg, emitOk_level]
  refine ⟨?_, ?_, ?_⟩
  · rintro r rfl
    exact ⟨fun q => s.cfg.get_set r q true, fun q => rfl⟩
  · rintro r lv rfl
    refine ⟨fun q => rfl, fun q => ?_⟩
    rw [← lineLevelOf_eq_ite]
    exact s.level.get_set r q _
  · rintro rfl q
    exact ⟨RoleFile.get_all .., RoleFile.get_all ..⟩

/-! ## An event answered FAIL -/

/-- The step that emits an event to a configured role and has it answered FAIL (40_sequencer.md R100, R105). -/
theorem step_of_emitting_fail {s : State} {e : Event} {rest : List Event} (h : s.emitting e rest)
    (hcfg : ∀ r lv, e = .write r lv → s.cfg.get r = true) (hans : s.nextAnswer = .fail) :
    step s = .next (emitFail e s.dropInput.dropAnswer) := by
  obtain ⟨hq, hp, hr, hc, hv⟩ := h
  have hans' : s.dropInput.nextAnswer = .fail := hans
  simp [step, stepOn, hr, hp, hc, hv, State.busy, emit, hq, writesUnconfigured_eq_false hcfg, hans']

/-- What a failed call leaves before the fault is entered (40_sequencer.md R105, 60_exceptions.md R211). -/
def failedCall (e : Event) (s : State) : State :=
  { s with level := levelsAfterFail e s.level, chip := chipAfterFail e s, draws := s.draws + 1 }

/-- The frame of an event answered FAIL, and the record it writes (40_sequencer.md R105; 60_exceptions.md R200). -/
theorem emitFail_eq (e : Event) (s : State) :
    emitFail e s =
      { s with
        fault := ⟨causeCode (failCause e), s.cur.getD 0#64, s.idx, roleCodeOf (eventRole e)⟩
        level := levelsAfterFail e s.level
        queue := []
        cur := none
        idx := 0#14
        phase := .fault
        chip := (loseFrame (failedCall e s)).chip
        draws := (loseFrame (failedCall e s)).draws } :=
  raiseFault_eq _ _ _ _ (failedCall e s)

/-- A failed call has acted on the chip wholly or not at all (60_exceptions.md R211). -/
theorem chipAfterFail_eq_or (e : Event) (s : State) :
    chipAfterFail e s = s.chip ∨ chipAfterFail e s = s.chip.observe s.level s.draws e := by
  unfold chipAfterFail
  split
  · exact .inr rfl
  · exact .inl rfl

/-- Settles O18: the step is `emitFail`; the record and LEVEL follow from the kind of event, the chip from what the failed
call did and what a broken frame loses. -/
theorem emissionAnsweredFail : Obligations.EmissionAnsweredFail := by
  intro s e rest w hemit hcur hcfg hans
  have hstep := step_of_emitting_fail hemit hcfg hans
  rw [emitFail_eq] at hstep
  obtain ⟨hsr, hwhole, hbroken⟩ := loseFrame_chip (failedCall e s.dropInput.dropAnswer)
  have hchip : (failedCall e s.dropInput.dropAnswer).chip = s.chip ∨
      (failedCall e s.dropInput.dropAnswer).chip = s.chip.observe s.level s.draws e := chipAfterFail_eq_or e _
  refine ⟨_, hstep, rfl, ?_, rfl, ?_, ?_, ?_, ?_, ?_, hbroken⟩
  · exact congrArg (Option.getD · 0#64) hcur
  · rintro r rfl
    exact ⟨rfl, rfl, fun q => s.level.get_set r q _⟩
  · rintro r lv rfl
    exact ⟨rfl, rfl, fun q => s.level.get_set r q _⟩
  · rintro rfl
    exact ⟨rfl, rfl, fun q => RoleFile.get_all _ q⟩
  · exact hchip.imp (fun h => by rwa [h] at hsr) fun h => by rwa [h] at hsr
  · intro hframe
    exact (hwhole hframe) ▸ hchip

/-! ## After a cancel -/

/-- Settles O41: TRACE gains at most the head of Q, and in CANCELLED that can only be BLANK HIGH. -/
theorem cancelledMakesOnlyBlankHigh : Obligations.CancelledMakesOnlyBlankHigh := by
  intro s t hinv hp hr hs
  obtain htrace | ⟨e, rest, hq, -, htrace⟩ := traceGrowsByHeadOfQueue s t hs hr
  · exact .inl htrace
  · have hlast := hinv.cancelled hp
    rw [hq] at hlast
    obtain h | h := hlast
    · cases h
    · cases h
      exact .inr htrace

end Sys2Proof.Machine

/-!
# SHIFTOUT and whole runs

The index law of SHIFTOUT, and the run of a READY block whose host is quiet and whose calls all succeed: as many steps as
there are queued events are `emitAll`, one event after another.
-/

namespace Sys2Proof.Machine

/-! ## The index law of SHIFTOUT -/

theorem count_clkHigh_shiftValue (v w : Nat) : (shiftValue v w).count (.write .clk .high) = w := by
  induction w with
  | zero => rfl
  | succ b ih => simp [shiftValue, ih]

/-- SHIFTOUT raises CLK once a bit (40_sequencer.md R109). -/
theorem count_clkHigh_shiftOut (vs : List Nat) (w : Nat) :
    (shiftOut vs w).count (.write .clk .high) = w * vs.length := by
  induction vs with
  | nil => rfl
  | cons v rest ih =>
    rw [shiftOut, List.count_append, count_clkHigh_shiftValue, ih, List.length_cons, Nat.mul_succ, Nat.add_comm]

/-- Settles O19: `shiftOut_triples` gives the event at every index. -/
theorem shiftoutIndexLaw : Obligations.ShiftoutIndexLaw := by
  intro vs w _
  refine ⟨shiftOut_length vs w, count_clkHigh_shiftOut vs w, fun k hk => ?_⟩
  have htriple := shiftOut_triples vs w k hk
  simp only [Nat.zero_add, List.getD_eq_getElem _ _ (Nat.div_lt_of_lt_mul hk)] at htriple
  exact htriple

/-! ## Events emitted one after another -/

/-- The state after the events `q` of a queue, each emitted by a step of its own and answered OK (40_sequencer.md R104,
R106); `runSteps_eq_emitAll` ties it to the run. -/
def emitAll : List Event → State → State
  | [], s => s
  | e :: rest, s => emitAll rest (emitOk e rest s.dropInput.dropAnswer)

/-- What no event answered OK changes, no list of them changes. -/
theorem emitAll_keeps {α : Type} {f : State → α} (hf : ∀ e rest s, f (emitOk e rest s.dropInput.dropAnswer) = f s)
    (q : List Event) (s : State) : f (emitAll q s) = f s := by
  induction q generalizing s with
  | nil => rfl
  | cons e rest ih => exact (ih _).trans (hf e rest s)

section EmitAll

variable (q : List Event) (s : State)

@[simp] theorem emitAll_dot : (emitAll q s).dot = s.dot := emitAll_keeps (fun _ _ _ => emitOk_dot ..) q s
@[simp] theorem emitAll_grey : (emitAll q s).grey = s.grey := emitAll_keeps (fun _ _ _ => emitOk_grey ..) q s
@[simp] theorem emitAll_first : (emitAll q s).first = s.first := emitAll_keeps (fun _ _ _ => emitOk_first ..) q s
@[simp] theorem emitAll_phase : (emitAll q s).phase = s.phase := emitAll_keeps (fun _ _ _ => emitOk_phase ..) q s
@[simp] theorem emitAll_fault : (emitAll q s).fault = s.fault := emitAll_keeps (fun _ _ _ => emitOk_fault ..) q s
@[simp] theorem emitAll_pins : (emitAll q s).pins = s.pins := emitAll_keeps (fun _ _ _ => emitOk_pins ..) q s
@[simp] theorem emitAll_configOrder : (emitAll q s).configOrder = s.configOrder :=
  emitAll_keeps (fun _ _ _ => emitOk_configOrder ..) q s

@[simp] theorem emitAll_trace : (emitAll q s).trace = s.trace ++ q := by
  induction q generalizing s with
  | nil => exact (List.append_nil _).symm
  | cons e rest ih => simp [emitAll, ih]

@[simp] theorem emitAll_cfg : (emitAll q s).cfg = cfgAfterAll q s.cfg := by
  induction q generalizing s with
  | nil => rfl
  | cons e rest ih => simp [emitAll, ih, cfgAfterAll_cons]

@[simp] theorem emitAll_level : (emitAll q s).level = levelsAfterAll q s.level := by
  induction q generalizing s with
  | nil => rfl
  | cons e rest ih => simp [emitAll, ih, levelsAfterAll_cons]

end EmitAll

/-- A queue emitted to its end is empty. -/
theorem emitAll_queue {q : List Event} {s : State} (hq : s.queue = q) : (emitAll q s).queue = [] := by
  induction q generalizing s with
  | nil => exact hq
  | cons e rest ih => exact ih (emitOk_queue ..)

/-- Emitting a queue to its end keeps the invariant. -/
theorem State.Inv.emitAll {q : List Event} {s : State} (h : s.Inv) (hf : s.phase ≠ .fault) (hq : s.queue = q) :
    (Machine.emitAll q s).Inv := by
  induction q generalizing s with
  | nil => exact h
  | cons e rest ih =>
    exact ih (h.dropInput.dropAnswer.emitOk hf hq) (by simpa using hf) (emitOk_queue ..)

/-- An allowed event passes the unconfigured-role check (70_reset_and_hazards.md R256). -/
theorem writesUnconfigured_of_eventAllowed {cfg : RoleFile Bool} {lv : RoleFile LineLevel} {e : Event}
    (h : eventAllowed cfg lv e = true) : writesUnconfigured cfg e = false := by
  refine writesUnconfigured_eq_false fun r l he => ?_
  subst he
  cases l with
  | low => exact h
  | high =>
    cases r with
    | latch | gsclk | clk =>
      obtain ⟨hcfgLevel, -⟩ := Bool.and_eq_true_iff.1 h
      exact (Bool.and_eq_true_iff.1 hcfgLevel).1
    | _ => exact h

/-- The run of a quiet host: as many steps as queued events emit them all (40_sequencer.md R106, R112). -/
theorem runSteps_eq_emitAll {q : List Event} {s : State} (hq : s.queue = q) (hf : s.phase ≠ .fault)
    (hquiet : s.hostQuiet = true) (hans : s.answersOk = true) (hallowed : queueAllowed s.cfg s.level q = true) :
    runSteps q.length s = .next (emitAll q s) := by
  induction q generalizing s with
  | nil => rfl
  | cons e rest ih =>
    obtain ⟨he, hrest⟩ := Bool.and_eq_true_iff.1 hallowed
    have hstep := step_quiet_ok hquiet hf hq (writesUnconfigured_of_eventAllowed he) (State.nextAnswer_ok hans)
    rw [List.length_cons, runSteps_succ_of_next _ hstep]
    apply ih
    · exact emitOk_queue ..
    · simpa using hf
    · simpa [State.hostQuiet] using all_tail hquiet
    · obtain ⟨hlisted, hlater⟩ := s.answersOk_iff.1 hans
      simpa [State.answersOk_iff, hlater] using all_tail hlisted
    · simpa using hrest

/-- Settles O20: the invariant makes every queued event allowed, so the run is `emitAll`; it keeps the invariant, by which
an empty queue leaves CUR none and IDX 0. -/
theorem commandRunsToCompletion : Obligations.CommandRunsToCompletion := by
  intro s hinv hp hquiet hans
  have hf : s.phase ≠ .fault := by simp [hp]
  have hrun := runSteps_eq_emitAll rfl hf hquiet hans (hinv.ready hp).1
  have hqueue : (emitAll s.queue s).queue = [] := emitAll_queue rfl
  have hend : (emitAll s.queue s).Inv := hinv.emitAll hf rfl
  exact ⟨_, hrun, by simp [hqueue, hend.cur.2 hqueue, hend.idle hqueue, hp]⟩

end Sys2Proof.Machine

/-!
# INIT and RESET

`SerialTable q o l n bit`: what WRDOT and WRGREY emit, standing at index `o` of a longer list. RESET's index table is
put together from the preamble, two such tables and the one-shot pair, and INIT's is RESET's behind the configure calls.
-/

namespace Sys2Proof.Machine

/-! ## The index table of a serial write -/

/-- From index `o` of `q`: PROG at `l`, `n` triples, a LATCH pulse (43_serial_writes.md R152, R153);
`latchedFrame_serialTable` ties it to the events. -/
structure SerialTable (q : List Event) (o : Nat) (l : Level) (n : Nat) (bit : Nat → Bool) : Prop where
  prog : q[o]? = some (.write .prog l)
  triples : ShiftTriples q (o + 1) n bit
  latchHigh : q[o + 1 + 3 * n]? = some (.write .latch .high)
  latchLow : q[o + 2 + 3 * n]? = some (.write .latch .low)

/-- What follows a list moves no index of it. -/
theorem getElem?_append_of_some {q : List Event} {i : Nat} {e : Event} (h : q[i]? = some e) (r : List Event) :
    (q ++ r)[i]? = some e :=
  (List.getElem?_append_left (List.getElem?_eq_some_iff.1 h).1).trans h

/-- What precedes a list moves its indices by its length. -/
theorem getElem?_append_length_add (p q : List Event) (i : Nat) : (p ++ q)[p.length + i]? = q[i]? := by
  rw [List.getElem?_append_right (Nat.le_add_right ..), Nat.add_sub_cancel_left]

section

variable {q : List Event} {o n : Nat} {l : Level} {bit bit' : Nat → Bool}

theorem SerialTable.congr (h : SerialTable q o l n bit) (hbit : ∀ k, k < n → bit' k = bit k) :
    SerialTable q o l n bit' :=
  { h with triples := h.triples.congr hbit }

theorem SerialTable.append_right (h : SerialTable q o l n bit) (r : List Event) : SerialTable (q ++ r) o l n bit where
  prog := getElem?_append_of_some h.prog r
  triples := h.triples.append_right r
  latchHigh := getElem?_append_of_some h.latchHigh r
  latchLow := getElem?_append_of_some h.latchLow r

theorem SerialTable.append_left (p : List Event) (h : SerialTable q o l n bit) :
    SerialTable (p ++ q) (p.length + o) l n bit where
  prog := (getElem?_append_length_add ..).trans h.prog
  triples := h.triples.append_left p
  latchHigh := by simpa only [Nat.add_assoc, getElem?_append_length_add] using h.latchHigh
  latchLow := by simpa only [Nat.add_assoc, getElem?_append_length_add] using h.latchLow

end

/-- The events of WRDOT and WRGREY, PROG at `l` (43_serial_writes.md R150, R151). -/
theorem latchedFrame_serialTable (l : Level) (vs : List Nat) (w : Nat) :
    SerialTable ([.write .prog l] ++ shiftOut vs w ++ pulseOf .latch) 0 l (w * vs.length)
      fun k => (vs.getD (k / w) 0).testBit (w - 1 - k % w) := by
  have hlen : ([Event.write .prog l] ++ shiftOut vs w).length = 1 + 3 * (w * vs.length) := by
    rw [List.length_append, shiftOut_length, Nat.mul_assoc, List.length_singleton]
  have latch (i : Nat) : ([Event.write .prog l] ++ shiftOut vs w ++ pulseOf .latch)[1 + 3 * (w * vs.length) + i]? =
      (pulseOf .latch)[i]? := by
    rw [← hlen, getElem?_append_length_add]
  constructor
  · rfl
  · exact ((shiftOut_triples vs w).append_left [.write .prog l]).append_right (pulseOf .latch)
  · rw [Nat.zero_add]
    exact latch 0
  · rw [Nat.zero_add, Nat.add_right_comm 1 1]
    exact latch 1

/-- Values of ones alone shift ones alone. -/
theorem latchedFrame_ones_serialTable (l : Level) (n w : Nat) :
    SerialTable ([.write .prog l] ++ shiftOut (List.replicate n (2 ^ w - 1)) w ++ pulseOf .latch) 0 l (w * n)
      fun _ => true := by
  have h := latchedFrame_serialTable l (List.replicate n (2 ^ w - 1)) w
  rw [List.length_replicate] at h
  refine h.congr fun k hk => ?_
  have hw : 0 < w := Nat.pos_of_mul_pos_right (Nat.zero_lt_of_lt hk)
  have hslot : k / w < n := Nat.div_lt_of_lt_mul hk
  have hbit : w - 1 - k % w < w := by omega
  rw [List.getD_replicate _ hslot, Nat.testBit_two_pow_sub_one, decide_eq_true hbit]

theorem wrdotEvents_default_serialTable :
    SerialTable (wrdotEvents defaultDotValues) 0 .high 96 fun _ => true :=
  latchedFrame_ones_serialTable .high 16 6

theorem wrgreyEvents_default_serialTable :
    SerialTable (wrgreyEvents defaultGreyValues) 0 .low 192 fun _ => true :=
  latchedFrame_ones_serialTable .low 16 12

/-! ## The index table of RESET -/

theorem wrdotEvents_length (d : List Nat) : (wrdotEvents d).length = 3 * 6 * d.length + 3 := by
  simp [wrdotEvents, shiftOut_length, pulseOf]

theorem wrgreyEvents_length (g : List Nat) : (wrgreyEvents g).length = 3 * 12 * g.length + 3 := by
  simp [wrgreyEvents, shiftOut_length, pulseOf]

/-- RESET's events before the one-shot pair (41_init_reset.md R123). -/
theorem length_before_oneShot :
    (preamble ++ wrdotEvents defaultDotValues ++ wrgreyEvents defaultGreyValues).length = 875 := by
  simp only [List.length_append, wrdotEvents_length, wrgreyEvents_length]
  rfl

/-- RESET's events meet its index table (41_init_reset.md R121 to R123). -/
theorem resetEvents_table (first : Bool) : ResetTable (resetEvents first) 0 first := by
  have hdot : SerialTable (resetEvents first) 5 .high 96 fun _ => true :=
    ((wrdotEvents_default_serialTable.append_left preamble).append_right _).append_right _
  have hgrey : SerialTable (resetEvents first) 296 .low 192 fun _ => true := by
    have h := (wrgreyEvents_default_serialTable.append_left (preamble ++ wrdotEvents defaultDotValues)).append_right
      (oneShot first)
    rwa [List.length_append, wrdotEvents_length] at h
  have hlength : (resetEvents first).length = 875 + (oneShot first).length := by
    rw [resetEvents, List.length_append, length_before_oneShot]
  have honeShot (i : Nat) : (resetEvents first)[875 + i]? = (oneShot first)[i]? := by
    rw [resetEvents, ← length_before_oneShot, getElem?_append_length_add]
  refine ⟨rfl, rfl, rfl, rfl, rfl, hdot.prog, hdot.triples, hdot.latchHigh, hdot.latchLow, hgrey.prog, hgrey.triples,
    hgrey.latchHigh, hgrey.latchLow, ?_, ?_⟩
  · rintro rfl
    exact ⟨hlength, honeShot 0, honeShot 1⟩
  · rintro rfl
    exact hlength

/-- The table stands behind any list, moved by its length. -/
theorem ResetTable.append_left {q : List Event} {o : Nat} {first : Bool} (p : List Event) (h : ResetTable q o first) :
    ResetTable (p ++ q) (p.length + o) first := by
  simpa only [ResetTable, ShiftTriples, Nat.add_assoc, getElem?_append_length_add, List.length_append,
    Nat.add_left_cancel_iff] using h

/-! ## INIT and RESET accepted -/

theorem encode_init : encode .init = 0x1#64 := by decide
theorem encode_reset : encode .reset = 0x2#64 := by decide

theorem resetEvents_ne_nil (first : Bool) : resetEvents first ≠ [] := by simp [resetEvents, preamble]

/-- An accepted command that has events becomes the current one (40_sequencer.md R101). -/
theorem exec_of_admission_of_events {i : Instr} {s : State} (ha : admission s.phase i = .accept)
    (hne : commandEvents i s ≠ []) :
    exec i s =
      .next { commandPost i s with queue := commandEvents i s, idx := 0#14, cur := some (encode i) } := by
  rw [exec_eq_accept_commandEvents, accept_of_admission ha, loadEvents, List.isEmpty_eq_false_iff.2 hne]
  rfl

/-- Settles O27: READY accepts RESET, whose events are those of `resetEvents_table`. -/
theorem resetEffectAndEvents : Obligations.ResetEffectAndEvents := by
  intro s hp
  have hadmit : admission s.phase .reset = .accept := (admission_eq_accept_iff _ _).2 (.inr (.inl hp))
  refine ⟨resetEvents s.first, ?_, resetEvents_table s.first⟩
  rw [exec_of_admission_of_events hadmit (resetEvents_ne_nil _), encode_reset]
  rfl

/-- Settles O28: UNINIT and READY accept INIT, whose events are the configure calls and then RESET's. -/
theorem initEffectAndEvents : Obligations.InitEffectAndEvents := by
  intro s hp horder
  have hadmit : admission s.phase .init = .accept :=
    (admission_eq_accept_iff _ _).2 (hp.imp (⟨·, rfl⟩) .inl)
  have hne : initEvents s.configOrder s.first ≠ [] :=
    List.append_ne_nil_of_right_ne_nil _ (resetEvents_ne_nil _)
  have hsix : (s.configOrder.map Event.configure).length = 6 := by rw [List.length_map, horder]
  refine ⟨initEvents s.configOrder s.first, ?_, List.take_left' hsix, ?_⟩
  · rw [exec_of_admission_of_events hadmit hne, encode_init]
    rfl
  · have htable := (resetEvents_table s.first).append_left (s.configOrder.map Event.configure)
    rwa [hsix] at htable

end Sys2Proof.Machine

/-!
# SETDOT and SETGREY

What the clamped operands select over the three ranges of an integer (42_channel_values.md R142, R143), and the two
commands that store them: neither has events, so READY completes each on acceptance (`exec_of_ready`).
-/

namespace Sys2Proof.Machine

/-! ## The clamped operands -/

/-- The slot an operand selects below, above and inside the channels. -/
theorem slotOf_ranges (ch : Int) :
    (ch < 0 → (slotOf ch).val = 15) ∧ (15 < ch → (slotOf ch).val = 0) ∧
      (0 ≤ ch → ch ≤ 15 → ((slotOf ch).val : Int) = 15 - ch) := by
  have hval := slotOf_val ch
  refine ⟨fun h => ?_, fun h => ?_, fun h₀ h₁ => ?_⟩
  · rw [clamp_of_lt (by decide) h] at hval
    omega
  · rw [clamp_of_gt h] at hval
    omega
  · rwa [clamp_of_mem h₀ h₁] at hval

/-- A word that holds `clamp(0, hi, v)`, below, above and inside the range; `dotValue_toNat` and `greyValue_toNat` give
its premise. -/
theorem clampedWord_ranges {w hi : Nat} {x : BitVec w} {v : Int} (hx : (x.toNat : Int) = clamp 0 hi v) :
    (v < 0 → x = 0#w) ∧ (hi < v → x = BitVec.ofNat w hi) ∧ (0 ≤ v → v ≤ hi → (x.toNat : Int) = v) := by
  have eq_ofNat {n : Nat} (hn : (x.toNat : Int) = n) : x = BitVec.ofNat w n := by
    rw [← Int.ofNat_inj.1 hn, BitVec.ofNat_toNat, BitVec.setWidth_eq]
  refine ⟨fun h => eq_ofNat ?_, fun h => eq_ofNat ?_, fun h₀ h₁ => ?_⟩
  · rw [hx, clamp_of_lt (Int.natCast_nonneg hi) h, Int.natCast_zero]
  · rw [hx, clamp_of_gt h]
  · rw [hx, clamp_of_mem h₀ h₁]

/-! ## The slot map -/

/-- An operand that is a channel selects that channel's slot. -/
theorem slotOf_channel {c : Nat} (hc : c ≤ 15) : slotOf c = slotOfChannel c := by
  rw [slotOf, clamp_of_mem (by omega) (by omega), Int.toNat_natCast]

/-- Settles O25: reversal within 0..15 undoes itself. -/
theorem slotMapIsReversal : Obligations.SlotMapIsReversal := fun _ hc =>
  ⟨rfl, Nat.sub_sub_self hc, slotOf_channel hc⟩

/-! ## The two commands -/

/-- Settles O23: READY accepts SETDOT, whose slot and value are the clamped operands. -/
theorem setdotWritesClampedSlot : Obligations.SetdotWritesClampedSlot := by
  intro s ch val hp
  obtain ⟨hslotBelow, hslotAbove, hslotInside⟩ := slotOf_ranges ch
  exact ⟨slotOf ch, dotValue val, exec_of_ready hp _, hslotBelow, hslotAbove, hslotInside,
    clampedWord_ranges (dotValue_toNat val)⟩

/-- Settles O24: READY accepts SETGREY, whose slot and value are the clamped operands. -/
theorem setgreyWritesClampedSlot : Obligations.SetgreyWritesClampedSlot := by
  intro s ch val hp
  obtain ⟨hslotBelow, hslotAbove, hslotInside⟩ := slotOf_ranges ch
  exact ⟨slotOf ch, greyValue val, exec_of_ready hp _, hslotBelow, hslotAbove, hslotInside,
    clampedWord_ranges (greyValue_toNat val)⟩

end Sys2Proof.Machine

/-!
# WRDOT and WRGREY

Both emit one PROG write, the triples of the sixteen slots, and a LATCH pulse, so their index tables are the widths 6 and
12 of `slotValues_serialTable`, and READY loads them on acceptance.
-/

namespace Sys2Proof.Machine

/-! ## The index table of sixteen slots -/

/-- Past the last slot both sides are 0. -/
theorem slotValues_getD_toList {w : Nat} (f : Vector (BitVec w) 16) (i : Nat) :
    (slotValues f).getD i 0 = (f.toList.getD i 0#w).toNat := by
  rw [slotValues, ← List.getD_map _ _ BitVec.toNat, BitVec.toNat_zero]

/-- Triple `k` carries bit `w - 1 - k mod w` of slot `k div w` (43_serial_writes.md R152, R153). -/
theorem slotValues_serialTable {w : Nat} (l : Level) (f : Vector (BitVec w) 16) :
    SerialTable ([.write .prog l] ++ shiftOut (slotValues f) w ++ pulseOf .latch) 0 l (w * 16)
      fun k => (f.toList.getD (k / w) 0#w).getLsbD (w - 1 - k % w) := by
  have h := latchedFrame_serialTable l (slotValues f) w
  rw [slotValues_length] at h
  refine h.congr fun k _ => ?_
  rw [slotValues_getD_toList, BitVec.testBit_toNat]

/-! ## WRDOT and WRGREY accepted -/

theorem wrdotEvents_ne_nil (d : List Nat) : wrdotEvents d ≠ [] := by simp [wrdotEvents]
theorem wrgreyEvents_ne_nil (g : List Nat) : wrgreyEvents g ≠ [] := by simp [wrgreyEvents]

/-- READY accepts every command, and one that has events becomes the current one (40_sequencer.md R101, R103). -/
theorem exec_of_ready_of_events {i : Instr} {s : State} (hp : s.phase = .ready) (hne : commandEvents i s ≠ []) :
    exec i s = .next { commandPost i s with queue := commandEvents i s, idx := 0#14, cur := some (encode i) } :=
  exec_of_admission_of_events ((admission_eq_accept_iff _ _).2 (.inr (.inl hp))) hne

/-- Settles O29: READY loads WRDOT's events, which are the table of the dot-correction slots with PROG HIGH. -/
theorem wrdotEventTable : Obligations.WrdotEventTable := by
  intro s hp
  obtain ⟨hprog, htriples, hlatchHigh, hlatchLow⟩ := slotValues_serialTable .high s.dot
  refine ⟨wrdotEvents (slotValues s.dot), ?_, ?_, hprog, htriples, hlatchHigh, hlatchLow⟩
  · rw [exec_of_ready_of_events (i := .wrdot) hp (wrdotEvents_ne_nil _), encode_wrdot]
    rfl
  · rw [wrdotEvents_length, slotValues_length]

/-- Settles O30: READY loads WRGREY's events, which are the table of the grayscale slots with PROG LOW. -/
theorem wrgreyEventTable : Obligations.WrgreyEventTable := by
  intro s hp
  obtain ⟨hprog, htriples, hlatchHigh, hlatchLow⟩ := slotValues_serialTable .low s.grey
  refine ⟨wrgreyEvents (slotValues s.grey), ?_, ?_, hprog, htriples, hlatchHigh, hlatchLow⟩
  · rw [exec_of_ready_of_events (i := .wrgrey) hp (wrgreyEvents_ne_nil _), encode_wrgrey]
    rfl
  · rw [wrgreyEvents_length, slotValues_length]

end Sys2Proof.Machine

/-!
# PULSE and BLANK

PULSE's index table is its two BLANK writes and 4096 copies of the GSCLK pair, read at index `2 + 2 i + j` by
`pulseEvents_pair`; the PWM count at those indices is `i`. BLANK has one event in both phases that accept it.
-/

namespace Sys2Proof.Machine

/-! ## The index table of PULSE -/

/-- Entry `j` of copy `i` (00_scope.md R9). -/
theorem repeatEvents_getElem? {es : List Event} {n i j : Nat} (hi : i < n) (hj : j < es.length) :
    (repeatEvents n es)[es.length * i + j]? = es[j]? := by
  induction n generalizing i with
  | zero => exact absurd hi (Nat.not_lt_zero i)
  | succ n ih =>
    rw [repeatEvents]
    cases i with
    | zero =>
      rw [Nat.mul_zero, Nat.zero_add]
      exact List.getElem?_append_left hj
    | succ i =>
      rw [Nat.mul_succ, Nat.add_comm _ es.length, Nat.add_assoc, getElem?_append_length_add]
      exact ih (Nat.lt_of_succ_lt_succ hi)

theorem pulseEvents_length : pulseEvents.length = 8194 := by
  simp [pulseEvents, repeatEvents_length, pulseOf, gsPulses]

theorem pulseEvents_ne_nil : pulseEvents ≠ [] := by simp [pulseEvents, pulseOf]

/-- Entry `j` of the pair of pulse `i` (44_pwm_blank.md R171). -/
theorem pulseEvents_pair {i j : Nat} (hi : i < 4096) (hj : j < 2) :
    pulseEvents[2 + 2 * i + j]? = (pulseOf .gsclk)[j]? := by
  rw [Nat.add_assoc]
  exact (getElem?_append_length_add (pulseOf .blank) _ _).trans (repeatEvents_getElem? (n := gsPulses) hi hj)

theorem pulseEvents_gsclkHigh {i : Nat} (hi : i < 4096) : pulseEvents[2 + 2 * i]? = some (.write .gsclk .high) :=
  pulseEvents_pair (j := 0) hi (by decide)

theorem pulseEvents_gsclkLow {i : Nat} (hi : i < 4096) : pulseEvents[3 + 2 * i]? = some (.write .gsclk .low) := by
  rw [Nat.add_right_comm 2 1]
  exact pulseEvents_pair hi (by decide)

/-- Settles O31: READY loads PULSE's events, which are the two BLANK writes and the 4096 pairs. -/
theorem pulseEventTable : Obligations.PulseEventTable := by
  intro s hp
  refine ⟨pulseEvents, ?_, pulseEvents_length, rfl, rfl,
    fun i hi => ⟨pulseEvents_gsclkHigh hi, pulseEvents_gsclkLow hi⟩⟩
  rw [exec_of_ready_of_events (i := .pulse) hp pulseEvents_ne_nil, encode_pulse]
  rfl

/-! ## The PWM count -/

/-- Both writes of pulse `i` have the count `i` (44_pwm_blank.md R172). -/
theorem pwmCount_of_pair {s : State} {i j : Nat} (hc : s.cur = some 0x7#64) (hj : j < 2)
    (hidx : s.idx.toNat = 2 + j + 2 * i) : s.pwmCount = some i := by
  rw [← encode_pulse] at hc
  rw [pwmCount_of_pulse hc (by omega)]
  congr 1
  omega

/-- Settles O32: the count by `pwmCount_of_pair`, the event by PULSE's index table, and no count where the timer does not
run. -/
theorem pwmCountNumbersThePulse : Obligations.PwmCountNumbersThePulse := by
  intro s
  refine ⟨fun hc i hi => ⟨fun hidx => ⟨pwmCount_of_pair (j := 0) hc (by decide) hidx, ?_⟩,
      fun hidx => ⟨pwmCount_of_pair (j := 1) hc (by decide) hidx, ?_⟩⟩,
    fun hlt => pwmCount_of_no_pulse (.inr hlt), fun hne => ?_⟩
  · rw [hidx]
    exact pulseEvents_gsclkHigh hi
  · rw [hidx]
    exact pulseEvents_gsclkLow hi
  · rw [← encode_pulse] at hne
    exact pwmCount_of_no_pulse (.inl hne)

/-! ## BLANK -/

theorem encode_blank (lvl : Level) : encode (.blank lvl) = if lvl = .high then 0x108#64 else 0x8#64 := by
  cases lvl <;> decide

/-- BLANK at any level in READY, BLANK 1 in CANCELLED (40_sequencer.md R103). -/
theorem admission_blank {p : Phase} {lvl : Level} (h : p = .ready ∨ (p = .cancelled ∧ lvl = .high)) :
    admission p (.blank lvl) = .accept := by
  refine (admission_eq_accept_iff _ _).2 (.inr (h.imp_right ?_))
  rintro ⟨hp, rfl⟩
  exact ⟨hp, .inl rfl⟩

/-- Settles O33: both phases accept the command, which has one event and no register effect. -/
theorem blankEmitsItsLevel : Obligations.BlankEmitsItsLevel := by
  intro s lvl h
  rw [exec_of_admission_of_events (admission_blank h) (List.cons_ne_nil _ _), encode_blank]
  rfl

end Sys2Proof.Machine

/-!
# CLEANUP

What the command loads in the two phases that accept it (45_cleanup.md R190).
-/

namespace Sys2Proof.Machine

theorem encode_cleanup : encode .cleanup = 0x9#64 := by decide

/-- CLEANUP in READY and in CANCELLED (40_sequencer.md R103). -/
theorem admission_cleanup {p : Phase} (h : p = .ready ∨ p = .cancelled) : admission p .cleanup = .accept :=
  (admission_eq_accept_iff _ _).2 (.inr (h.imp_right (⟨·, .inr rfl⟩)))

/-- Settles O34: both phases accept the command, whose one event is the teardown and whose effect is PHASE. -/
theorem cleanupReleases : Obligations.CleanupReleases := by
  intro s hp
  rw [exec_of_admission_of_events (admission_cleanup hp) (List.cons_ne_nil _ _), encode_cleanup]
  rfl

end Sys2Proof.Machine

/-!
# Faults of one step

Which steps enter FAULT and what they record: the refusals of 40_sequencer.md R103, illegal words and overruns, writes to
unconfigured roles, and the causes a READY block can raise (60_exceptions.md R200 to R212).
-/

namespace Sys2Proof.Machine

/-! ## Refusals at acceptance -/

/-- UNINIT refuses every command but INIT (60_exceptions.md R203 (a)). -/
theorem admission_uninit {i : Instr} (hi : i ≠ .init) : admission .uninit i = .refuse .notInitialised := by
  cases i with
  | init => exact absurd rfl hi
  | _ => rfl

/-- CANCELLED refuses every command but BLANK 1 and CLEANUP (60_exceptions.md R205). -/
theorem admission_cancelled {i : Instr} (hblank : i ≠ .blank .high) (hcleanup : i ≠ .cleanup) :
    admission .cancelled i = .refuse .cancelledPhase := by
  cases i with
  | blank lvl =>
    cases lvl with
    | low => rfl
    | high => exact absurd rfl hblank
  | cleanup => exact absurd rfl hcleanup
  | _ => rfl

/-- An idle block that refuses a word changes in its record and PHASE alone (60_exceptions.md R200). -/
theorem raiseAtAcceptance_of_idle {s : State} (hq : s.queue = []) (c : Cause) (w : Word) :
    raiseAtAcceptance c w s = faultedAtAcceptance (causeCode c) w s :=
  raiseFault_of_idle hq c w 0#14 none

theorem exec_of_refuse {i : Instr} {s : State} {c : Cause} (hq : s.queue = [])
    (hc : admission s.phase i = .refuse c) : exec i s = .next (faultedAtAcceptance (causeCode c) (encode i) s) := by
  rw [exec_eq_accept_commandEvents, accept_of_refuse hc, raiseAtAcceptance_of_idle hq]

/-- Settles O15: the three columns of the admission table, each refusal raised at an idle block. -/
theorem admissionRefusals : Obligations.AdmissionRefusals := by
  intro i s hq
  refine ⟨fun hp hi => exec_of_refuse (c := .notInitialised) hq ?_,
    fun hp => exec_of_refuse (c := .releasedPhase) hq ?_,
    fun hp hb hc => exec_of_refuse (c := .cancelledPhase) hq ?_⟩
  · rw [hp, admission_uninit hi]
  · rw [hp]
    rfl
  · rw [hp, admission_cancelled hb hc]

/-! ## A word presented in FAULT, to an idle block, to a busy block -/

/-- Settles O35: FAULT is looked at before everything but block reset. -/
theorem faultIsTerminal : Obligations.FaultIsTerminal := by
  intro s hp hr
  show step s = .next s.dropInput
  simp [step, stepOn, hr, hp]

/-- A presented word that nothing comes before reaches the command port (40_sequencer.md R100). -/
theorem step_eq_presentWord {s : State} {w : Word} (h : s.presented w) : step s = presentWord w s.dropInput := by
  obtain ⟨hp, hr, hc, hv, rfl⟩ := h
  simp [step, stepOn, hr, hp, hc, hv]

/-- Settles O36: an idle block decodes the word, and fault entry there loses no frame. -/
theorem illegalWordFaults : Obligations.IllegalWordFaults := by
  rintro s w hq hpres ⟨why, hd⟩
  rw [step_eq_presentWord hpres]
  have hidle : s.dropInput.queue = [] := hq
  simp only [presentWord, acceptWord, State.busy, hidle, hd, raiseAtAcceptance_of_idle hidle]
  rfl

/-- Settles O38: a busy block does not decode the word; fault entry loses at most the frame in SR. -/
theorem overrunFaults : Obligations.OverrunFaults := by
  intro s w hq hpres
  have hbusy : s.dropInput.busy = true := by simpa [State.busy] using hq
  refine ⟨raiseAtAcceptance .overrun w s.dropInput, ?_, raiseFault_eq .., ?_⟩
  · rw [step_eq_presentWord hpres, presentWord, if_pos hbusy]
  · rw [raiseAtAcceptance, raiseFault_chip]
    exact loseFrame_chip s.dropInput

/-! ## A write to an unconfigured role -/

/-- A step that nothing comes before is an emission (40_sequencer.md R100). -/
theorem step_of_emitting {s : State} {e : Event} {rest : List Event} (h : s.emitting e rest) :
    step s = .next (emit s.dropInput) := by
  obtain ⟨hq, hp, hr, hc, hv⟩ := h
  simp [step, stepOn, hr, hp, hc, hv, State.busy, hq]

/-- Settles O37: the check of the role comes before the call, so no answer is taken; fault entry records CUR, IDX and the
role. -/
theorem unconfiguredWriteFaults : Obligations.UnconfiguredWriteFaults := by
  intro s r lv rest w hemit hcur hcfg
  have hunconf : writesUnconfigured s.cfg (.write r lv) = true := by simp [writesUnconfigured, hcfg]
  have hraise : emit s.dropInput = raiseFault .notInitialised w s.idx (some r) s.dropInput := by
    simp [emit, hemit.1, hunconf, raiseAtEmission, hcur, eventRole]
  refine ⟨_, by rw [step_of_emitting hemit, hraise], raiseFault_eq .., ?_⟩
  rw [raiseFault_chip]
  exact loseFrame_chip s.dropInput

/-! ## The causes of a READY block -/

/-- The head of a READY block's queue is allowed where it stands (70_reset_and_hazards.md R256). -/
theorem State.Inv.head_allowed {s : State} (h : s.Inv) (hp : s.phase = .ready) {e : Event} {rest : List Event}
    (hq : s.queue = e :: rest) : eventAllowed s.cfg s.level e = true := by
  obtain ⟨hallowed, -⟩ := h.ready hp
  rw [hq, queueAllowed, Bool.and_eq_true] at hallowed
  exact hallowed.1

/-- A failed call of an allowed event is a failed configure call or write (60_exceptions.md R207, R208). -/
theorem failCause_of_eventAllowed {cfg : RoleFile Bool} {lv : RoleFile LineLevel} {e : Event}
    (h : eventAllowed cfg lv e = true) : failCause e = .pinConfig ∨ failCause e = .pinWrite := by
  cases e with
  | configure r => exact .inl rfl
  | write r l => exact .inr rfl
  | teardown => cases h

/-- Emission of an allowed event faults by a failed configure call or write alone. -/
theorem emit_fault_cause {s : State} {e : Event} {rest : List Event} (hq : s.queue = e :: rest)
    (hp : s.phase ≠ .fault) (hallowed : eventAllowed s.cfg s.level e = true) (hf : (emit s).phase = .fault) :
    (emit s).fault.cause = 6#4 ∨ (emit s).fault.cause = 7#4 := by
  obtain ⟨hu, -⟩ | ⟨-, -, he⟩ | ⟨-, -, he⟩ := emit_cases hq
  · rw [writesUnconfigured_of_eventAllowed hallowed] at hu
    cases hu
  · rw [he, emitOk_phase] at hf
    exact absurd hf hp
  · rw [he, emitFail_eq]
    exact (failCause_of_eventAllowed hallowed).imp (congrArg causeCode) (congrArg causeCode)

/-- A command accepted in READY does not fault (40_sequencer.md R103). -/
theorem exec_ready_phase {i : Instr} {s t : State} (hp : s.phase = .ready) (h : exec i s = .next t) :
    t.phase ≠ .fault := by
  rw [exec_of_ready hp] at h
  cases h
  rw [loadEvents_phase, commandPost_phase, hp]
  split
  · simp
  · split <;> simp

/-- Settles O40: READY refuses no command and its queued events are allowed, so what is left to raise is an overrun, an
illegal word, or a failed configure call or write. -/
theorem readyFaultCauses : Obligations.ReadyFaultCauses := by
  intro s t hinv hp hr hs hf
  obtain ⟨req, p, h, -, -⟩ | ⟨-, h, -⟩ | ⟨-, -, -, rfl⟩ | ⟨-, -, -, -, hw⟩ | ⟨-, hnf, -, -, he⟩ := stepOn_cases hs
  · simp [hr] at h
  · simp [hp] at h
  · simp at hf
  · obtain ⟨-, rfl⟩ | ⟨-, -, rfl⟩ | ⟨-, i, -, hx⟩ := hw
    · exact .inr (.inl (by simp [raiseAtAcceptance, causeCode]))
    · exact .inl (by simp [raiseAtAcceptance, causeCode])
    · exact absurd hf (exec_ready_phase (s := s.dropInput) hp hx)
  · obtain ⟨hq, rfl⟩ | ⟨-, rfl⟩ := he
    · obtain ⟨e, rest, hq⟩ := List.exists_cons_of_ne_nil hq
      exact .inr (.inr (emit_fault_cause hq hnf (hinv.head_allowed hp hq) hf))
    · exact absurd hf hnf

end Sys2Proof.Machine

/-!
# Lines and TRACE over one step

`step_lines` says what a step does to TRACE and LEVEL together; the output gate (60_exceptions.md R234) and the edges of
CLK and LATCH (R231, R232) are read off it.
-/

namespace Sys2Proof.Machine

/-! ## What a step does to the lines -/

/-- Acceptance of a command drives no line (40_sequencer.md R101). -/
theorem exec_level {i : Instr} {s t : State} (h : exec i s = .next t) : t.level = s.level := by
  obtain ⟨-, rfl⟩ | ⟨c, rfl⟩ | ⟨-, rfl⟩ := exec_cases h
  · simp
  · simp [raiseAtAcceptance]
  · rfl

/-- The head event is made and driven, or its call failed; otherwise TRACE and LEVEL stay (40_sequencer.md R104, R105). -/
def LinesMove (s t : State) : Prop :=
  (t.trace = s.trace ∧ t.level = s.level) ∨
    ∃ e rest, s.queue = e :: rest ∧
      ((t.trace = s.trace ++ [e] ∧ t.level = levelsAfter e s.level) ∨
        (t.trace = s.trace ∧ t.level = levelsAfterFail e s.level))

theorem emit_lines {s : State} {e : Event} {rest : List Event} (hq : s.queue = e :: rest) :
    LinesMove s (emit s) := by
  obtain ⟨-, h⟩ | ⟨-, -, h⟩ | ⟨-, -, h⟩ := emit_cases hq
  · exact .inl (by simp [h, raiseAtEmission])
  · exact .inr ⟨e, rest, hq, .inl (by simp [h])⟩
  · exact .inr ⟨e, rest, hq, .inr (by simp [h, emitFail_eq])⟩

/-- Of the branches of a step without block reset, emission alone moves a line. -/
theorem step_lines {s t : State} (hs : step s = .next t) (hr : s.sampled.rst = none) : LinesMove s t := by
  obtain ⟨req, p, h, -, -⟩ | ⟨-, -, rfl⟩ | ⟨-, -, -, rfl⟩ | ⟨-, -, -, -, hw⟩ | ⟨-, -, -, -, he⟩ := stepOn_cases hs
  · simp [hr] at h
  · exact .inl ⟨rfl, rfl⟩
  · exact .inl (by simp)
  · obtain ⟨-, rfl⟩ | ⟨-, -, rfl⟩ | ⟨-, i, -, hx⟩ := hw
    · exact .inl (by simp [raiseAtAcceptance])
    · exact .inl (by simp [raiseAtAcceptance])
    · exact .inl ⟨exec_trace (s := s.dropInput) hx, exec_level (s := s.dropInput) hx⟩
  · obtain ⟨hq, rfl⟩ | ⟨-, rfl⟩ := he
    · obtain ⟨e, rest, hq⟩ := List.exists_cons_of_ne_nil hq
      exact emit_lines (s := s.dropInput) hq
    · exact .inl ⟨rfl, rfl⟩

/-- An event appended to TRACE was the head of Q and drove its line. -/
theorem LinesMove.of_trace_append {s t : State} (h : LinesMove s t) {e : Event} (ht : t.trace = s.trace ++ [e]) :
    (∃ rest, s.queue = e :: rest) ∧ t.level = levelsAfter e s.level := by
  obtain ⟨hkeep, -⟩ | ⟨x, rest, hq, ⟨hmade, hlevel⟩ | ⟨hkeep, -⟩⟩ := h
  · simp [hkeep] at ht
  · obtain rfl : x = e := by simpa [hmade] using ht
    exact ⟨⟨rest, hq⟩, hlevel⟩
  · simp [hkeep] at ht

/-! ## The output gate -/

/-- An event of another role leaves BLANK's level, whether the call succeeds or fails. -/
theorem levelsAfter_blank {e : Event} (hrole : eventRole e ≠ some .blank) (he : e ≠ .teardown)
    (lv : RoleFile LineLevel) :
    (levelsAfter e lv).blank = lv.blank ∧ (levelsAfterFail e lv).blank = lv.blank := by
  cases e with
  | configure r =>
    exact ⟨rfl, RoleFile.get_set_ne lv r .blank _ fun h => hrole (congrArg some h.symm)⟩
  | write r l =>
    have hr : Role.blank ≠ r := fun h => hrole (congrArg some h.symm)
    exact ⟨RoleFile.get_set_ne lv r .blank _ hr, RoleFile.get_set_ne lv r .blank _ hr⟩
  | teardown => exact absurd rfl he

/-- Settles O43: the gate is BLANK's level, which a write of BLANK sets and no other role's event moves. -/
theorem outputsFollowBlank : Obligations.OutputsFollowBlank := by
  intro s t hs hr
  have hlines := step_lines hs hr
  refine ⟨fun ht => ?_, fun ht => ?_, fun hne => ?_⟩
  · exact outputsEnabled_of_high (by rw [(hlines.of_trace_append ht).2]; rfl)
  · exact outputsEnabled_of_low (by rw [(hlines.of_trace_append ht).2]; rfl)
  · obtain ⟨-, hlevel⟩ | ⟨e, rest, hq, hmoved⟩ := hlines
    · exact absurd (outputsEnabled_congr (by rw [hlevel])) hne
    · refine ⟨e, rest, hq, ?_⟩
      by_contra hother
      obtain ⟨hrole, he⟩ := not_or.1 hother
      obtain ⟨hok, hfail⟩ := levelsAfter_blank hrole he s.level
      obtain ⟨-, hlevel⟩ | ⟨-, hlevel⟩ := hmoved
      · exact hne (outputsEnabled_congr (by rw [hlevel, hok]))
      · exact hne (outputsEnabled_congr (by rw [hlevel, hfail]))

/-! ## The edges of CLK and LATCH -/

/-- Block reset clears TRACE, so a step that appends to it sampled none. -/
theorem rst_eq_none_of_trace_append {s t : State} (hs : step s = .next t) {e : Event}
    (ht : t.trace = s.trace ++ [e]) : s.sampled.rst = none := by
  obtain ⟨req, p, -, -, rfl⟩ | ⟨h, -⟩ | ⟨h, -⟩ | ⟨h, -⟩ | ⟨h, -⟩ := stepOn_cases hs
  · simp [State.reset] at ht
  · exact h
  · exact h
  · exact h
  · exact h

/-- Outside READY a reachable block has nothing to emit but BLANK HIGH and the teardown (40_sequencer.md R103; 45_cleanup.md
R190). -/
theorem State.Inv.ready_of_head {s : State} (h : s.Inv) {r : Role} {l : Level} {rest : List Event}
    (hr : r ≠ .blank) (hq : s.queue = .write r l :: rest) : s.phase = .ready := by
  cases hp : s.phase with
  | ready => rfl
  | uninit =>
    obtain ⟨-, hidle, -⟩ := h.uninit hp
    simp [hq] at hidle
  | cancelled => simpa [hq, hr] using h.cancelled hp
  | released => simpa [hq] using h.released hp
  | fault =>
    obtain ⟨-, -, -, hidle⟩ := h.recordKept hp
    simp [hq] at hidle

/-- A write of another role than BLANK that a reachable block makes was allowed at the levels before it. -/
theorem allowed_of_trace_append {s t : State} (hinv : s.Inv) (hs : step s = .next t) {r : Role} {l : Level}
    (hr : r ≠ .blank) (ht : t.trace = s.trace ++ [.write r l]) :
    eventAllowed s.cfg s.level (.write r l) = true := by
  obtain ⟨⟨rest, hq⟩, -⟩ := (step_lines hs (rst_eq_none_of_trace_append hs ht)).of_trace_append ht
  exact hinv.head_allowed (hinv.ready_of_head hr hq) hq

theorem driven_iff (l : LineLevel) : l.driven = true ↔ l = .low ∨ l = .high := by cases l <;> decide

/-- Settles O44: both events were allowed where they were made, and `eventAllowed` asks for these levels. -/
theorem edgesComeFromDrivenLines : Obligations.EdgesComeFromDrivenLines := by
  intro s t hinv hs
  refine ⟨fun ht => ?_, fun ht => ?_⟩
  all_goals
    have hallowed := allowed_of_trace_append hinv hs (by decide) ht
    simp only [eventAllowed, Bool.and_eq_true, beq_iff_eq, driven_iff, and_assoc] at hallowed
    exact hallowed.2

end Sys2Proof.Machine

/-!
# Two whole runs

A command whose calls succeed up to one that fails (60_exceptions.md R211), and the five steps of the cancellation contract
(R214).
-/

namespace Sys2Proof.Machine

/-! ## A run that stops short of the queue's end -/

/-- What `k` events of the queue of `s`, each answered OK and not the last, leave behind (40_sequencer.md R104). -/
structure EmittedFirst (k : Nat) (s t : State) : Prop where
  trace : t.trace = s.trace ++ s.queue.take k
  queue : t.queue = s.queue.drop k
  level : t.level = levelsAfterAll (s.queue.take k) s.level
  cfg : t.cfg = cfgAfterAll (s.queue.take k) s.cfg
  idx : t.idx = s.idx + BitVec.ofNat 14 k
  cur : t.cur = s.cur
  phase : t.phase = s.phase
  dot : t.dot = s.dot
  grey : t.grey = s.grey
  first : t.first = s.first

theorem EmittedFirst.zero (s : State) : EmittedFirst 0 s s where
  trace := by simp
  queue := rfl
  level := rfl
  cfg := rfl
  idx := by simp
  cur := rfl
  phase := rfl
  dot := rfl
  grey := rfl
  first := rfl

/-- One event more, at the front. -/
theorem EmittedFirst.succ {k : Nat} {s t : State} {e : Event} {rest : List Event} (hq : s.queue = e :: rest)
    (hne : rest ≠ []) (h : EmittedFirst k (emitOk e rest s.dropInput.dropAnswer) t) : EmittedFirst (k + 1) s t where
  trace := by simp [h.trace, hq]
  queue := by simp [h.queue, hq]
  level := by simp [h.level, hq, levelsAfterAll_cons]
  cfg := by simp [h.cfg, hq, cfgAfterAll_cons]
  idx := by
    rw [h.idx, emitOk_idx, if_neg hne, Nat.add_comm k 1, BitVec.ofNat_add, ← BitVec.add_assoc]
    rfl
  cur := by rw [h.cur, emitOk_cur, if_neg hne]; rfl
  phase := by simp [h.phase]
  dot := by simp [h.dot]
  grey := by simp [h.grey]
  first := by simp [h.first]

/-- The calls for the first `k` events succeed; what is left then of the queue, the host's inputs and the answers. -/
theorem runSteps_emits_first {k : Nat} {s : State} {e : Event} {later : List Answer} (hf : s.phase ≠ .fault)
    (hquiet : s.hostQuiet = true) (hallowed : queueAllowed s.cfg s.level s.queue = true) (hk : s.queue[k]? = some e)
    (hans : s.answers = List.replicate k .ok ++ later) :
    ∃ t, runSteps k s = .next t ∧ EmittedFirst k s t ∧ t.hostQuiet = true ∧
      queueAllowed t.cfg t.level t.queue = true ∧ t.answers = later := by
  induction k generalizing s with
  | zero => exact ⟨s, rfl, .zero s, hquiet, hallowed, hans⟩
  | succ k ih =>
    obtain ⟨x, rest, hq⟩ : ∃ x rest, s.queue = x :: rest :=
      List.exists_cons_of_ne_nil fun h => by simp [h] at hk
    rw [hq] at hallowed hk
    obtain ⟨hx, hrest⟩ := Bool.and_eq_true_iff.1 hallowed
    have hnext : s.nextAnswer = .ok := by simp [State.nextAnswer, hans, List.replicate_succ]
    have hstep := step_quiet_ok hquiet hf hq (writesUnconfigured_of_eventAllowed hx) hnext
    obtain ⟨t, hrun, hfirst, hkeep⟩ := ih (s := emitOk x rest s.dropInput.dropAnswer) (by simpa using hf)
      (by simpa [State.hostQuiet] using all_tail hquiet) (by simpa using hrest) (by simpa using hk)
      (by simp [hans, List.replicate_succ])
    have hne : rest ≠ [] := fun h => by simp [h] at hk
    exact ⟨t, (runSteps_succ_of_next k hstep).trans hrun, hfirst.succ hq hne, hkeep⟩

/-! ## Precise faults -/

/-- A failed configure call or write leaves its own line unknown and no other (40_sequencer.md R105). -/
theorem get_levelsAfterFail {e : Event} (he : e ≠ .teardown) (lv : RoleFile LineLevel) (r : Role) :
    (levelsAfterFail e lv).get r = if eventRole e = some r then .unknown else lv.get r := by
  cases e with
  | configure q => simp [levelsAfterFail, eventRole, RoleFile.get_set, eq_comm]
  | write q l => simp [levelsAfterFail, eventRole, RoleFile.get_set, eq_comm]
  | teardown => exact absurd rfl he

/-- Settles O39: `k` steps emit the first `k` events, and the step after them is `emitFail` with IDX at `k`. -/
theorem failureIsPrecise : Obligations.FailureIsPrecise := by
  intro s k later e w hinv hp hquiet hidx hcur hk hans
  have hf : s.phase ≠ .fault := by simp [hp]
  obtain ⟨u, hrun, hu, huquiet, huallowed, huans⟩ :=
    runSteps_emits_first hf hquiet (hinv.ready hp).1 hk hans
  have hlt : k < s.queue.length := (List.getElem?_eq_some_iff.1 hk).1
  have huq : u.queue = e :: s.queue.drop (k + 1) := by
    rw [hu.queue, List.drop_eq_getElem_cons hlt, (List.getElem?_eq_some_iff.1 hk).2]
  rw [huq] at huallowed
  obtain ⟨he, -⟩ := Bool.and_eq_true_iff.1 huallowed
  have hteardown : e ≠ .teardown := by
    rintro rfl
    cases he
  have hstep : step u = .next (emitFail e u.dropInput.dropAnswer) := by
    rw [step_quiet_busy huquiet (by rwa [hu.phase]) huq]
    simp [emit, huq, writesUnconfigured_of_eventAllowed he, State.nextAnswer, huans]
  have hk14 : (BitVec.ofNat 14 k).toNat = k := by
    have := hinv.idx
    rw [BitVec.toNat_ofNat]
    omega
  rw [emitFail_eq] at hstep
  refine ⟨_, (runSteps_add 1 hrun).trans (runSteps_succ_of_next 0 hstep), ?_⟩
  simp [hu.trace, hu.level, hu.cfg, hu.idx, hu.cur, hu.dot, hu.grey, hu.first, hidx, hcur, hk14,
    get_levelsAfterFail hteardown]

/-! ## The cancellation contract -/

theorem runSteps_one {s t : State} (h : step s = .next t) : runSteps 1 s = .next t := runSteps_succ_of_next 0 h

/-- A quiet input at the head of the list lets the head of the queue be emitted. -/
theorem emitting_of_quiet {s : State} {e : Event} {rest : List Event} {later : List HostInput}
    (hq : s.queue = e :: rest) (hp : s.phase ≠ .fault) (hi : s.inputs = HostInput.quiet :: later) :
    s.emitting e rest := by
  have hsample : s.sampled = HostInput.quiet := by simp [State.sampled, hi]
  exact ⟨hq, hp, by simp [hsample, HostInput.quiet]⟩

/-- A word at the head of the list is presented. -/
theorem presented_of_present {s : State} {w : Word} {later : List HostInput} (hp : s.phase ≠ .fault)
    (hi : s.inputs = HostInput.present w :: later) : s.presented w := by
  have hsample : s.sampled = HostInput.present w := by simp [State.sampled, hi]
  exact ⟨hp, by simp [hsample, HostInput.present]⟩

theorem phase_ne_fault_of_accept {p : Phase} {i : Instr} (h : admission p i = .accept) : p ≠ .fault := by
  rintro rfl
  cases h

@[simp] theorem commandPost_inputs (i : Instr) (s : State) : (commandPost i s).inputs = s.inputs := by cases i <;> rfl

@[simp] theorem commandPost_answersOk (i : Instr) (s : State) : (commandPost i s).answersOk = s.answersOk := by
  cases i <;> rfl

theorem answersOk_emitOk {s : State} (h : s.answersOk = true) (e : Event) (rest : List Event) :
    (emitOk e rest s.dropInput.dropAnswer).answersOk = true := by
  obtain ⟨hlisted, hlater⟩ := s.answersOk_iff.1 h
  simpa [State.answersOk_iff, hlater] using all_tail hlisted

/-- What a command of the one event `e` leaves behind, the event being answered OK (40_sequencer.md R104, R106). -/
structure RanOneEvent (e : Event) (s t : State) : Prop where
  trace : t.trace = s.trace ++ [e]
  level : t.level = levelsAfter e s.level
  cfg : t.cfg = cfgAfter e s.cfg
  queue : t.queue = []
  fault : t.fault = s.fault
  answers : t.answersOk = true

/-- A command of one event, presented to an idle block and followed by a quiet input, completes in two steps; its
acceptance drives no line (40_sequencer.md R101, R104). -/
theorem step_step_of_one_event {s : State} {i : Instr} {e : Event} {later : List HostInput} (hwf : i.wellFormed = true)
    (ha : admission s.phase i = .accept) (he : ∀ u, commandEvents i u = [e]) (hq : s.queue = [])
    (hcfg : ∀ r lv, e = .write r lv → s.cfg.get r = true) (hans : s.answersOk = true)
    (hi : s.inputs = HostInput.present (encode i) :: HostInput.quiet :: later) :
    ∃ v t, step s = .next v ∧ v.level = s.level ∧ step v = .next t ∧ RanOneEvent e s t ∧
      t.phase = (commandPost i s.dropInput).phase ∧ t.inputs = later := by
  have hpres := presented_of_present (phase_ne_fault_of_accept ha) hi
  have haccept : step s = .next (loadEvents i [e] (commandPost i s.dropInput)) := by
    rw [step_of_presented hq (decodeOfEncode i hwf) hpres, exec_eq_accept_commandEvents, he]
    exact accept_of_admission ha
  have hp : (commandPost i s.dropInput).phase ≠ .fault := by
    obtain ⟨h, -⟩ | ⟨h, -⟩ | ⟨h, -⟩ := commandPost_phase_cases (s := s.dropInput) ha <;> simp [h]
  have hans' : (loadEvents i [e] (commandPost i s.dropInput)).answersOk = true :=
    (commandPost_answersOk i s.dropInput).trans hans
  have hemit : (loadEvents i [e] (commandPost i s.dropInput)).emitting e [] :=
    emitting_of_quiet (later := later) rfl hp (by simp [hi])
  have hstep := step_of_emitting_ok hemit (by simpa using hcfg) (State.nextAnswer_ok hans')
  refine ⟨_, _, haccept, by simp, hstep, ⟨by simp, by simp, by simp, by simp, by simp, ?_⟩, by simp, by simp [hi]⟩
  exact answersOk_emitOk hans' e []

/-- The contract from an idle CANCELLED block on: BLANK 1, its event, CLEANUP, its event (60_exceptions.md R214). -/
theorem recovery_of_cancelled {s : State} {later : List HostInput} (hp : s.phase = .cancelled) (hq : s.queue = [])
    (hcfg : s.cfg.get .blank = true) (hans : s.answersOk = true)
    (hi : s.inputs = [HostInput.present 0x108#64, HostInput.quiet, HostInput.present 0x9#64, HostInput.quiet] ++ later) :
    ∃ u v t, runSteps 2 s = .next u ∧ u.trace = s.trace ++ [.write .blank .high] ∧ u.level.blank = .high ∧
      runSteps 3 s = .next v ∧ v.level.blank = .high ∧
      runSteps 4 s = .next t ∧ t.trace = s.trace ++ [.write .blank .high, .teardown] ∧ t.phase = .released ∧
      t.queue = [] ∧ t.level = RoleFile.all .released ∧ t.cfg = RoleFile.all false ∧ t.fault = s.fault ∧
      t.inputs = later := by
  obtain ⟨r, u, hr, -, hu, hblank, hup, hui⟩ := step_step_of_one_event (i := .blank .high) rfl
    (admission_blank (.inr ⟨hp, rfl⟩)) (fun _ => rfl) hq (by rintro r lv ⟨⟩; exact hcfg) hans hi
  obtain ⟨v, t, hv, hvlevel, ht, hteardown, htp, hti⟩ := step_step_of_one_event (i := .cleanup) rfl
    (admission_cleanup (.inr (hup.trans hp))) (fun _ => rfl) hblank.queue nofun hblank.answers hui
  have hrun2 : runSteps 2 s = .next u := (runSteps_succ_of_next 1 hr).trans (runSteps_one hu)
  have hrun3 : runSteps 3 s = .next v := (runSteps_add 1 hrun2).trans (runSteps_one hv)
  have hrun4 : runSteps 4 s = .next t := (runSteps_add 1 hrun3).trans (runSteps_one ht)
  have hhigh : u.level.blank = .high := by rw [hblank.level]; rfl
  refine ⟨u, v, t, hrun2, hblank.trace, hhigh, hrun3, by rw [hvlevel, hhigh], hrun4, ?_, htp, hteardown.queue,
    hteardown.level, hteardown.cfg, hteardown.fault.trans hblank.fault, hti⟩
  rw [hteardown.trace, hblank.trace, List.append_assoc]
  rfl

/-- Settles O42: the cancel leaves an idle CANCELLED block with its lines, and `recovery_of_cancelled` goes on from there;
the gate is off while BLANK is HIGH. -/
theorem cancellationContract : Obligations.CancellationContract := by
  intro s later hp hcfg hans hi
  have hsample : s.sampled = HostInput.cancelled := by simp [State.sampled, hi]
  have hcancel := step_of_cancel hp (by rw [hsample]; rfl) (by rw [hsample]; rfl)
  obtain ⟨u, v, t, hu, hutrace, huhigh, hv, hvhigh, ht, httrace, htphase, htqueue, htlevel, htcfg, htfault, htinputs⟩ :=
    recovery_of_cancelled (s := cancelStep s.dropInput) (later := later) (by simp) (by simp) (by simpa using hcfg)
      (by simpa [State.answersOk] using hans) (by simp [hi])
  refine ⟨u, v, t, (runSteps_succ_of_next 2 hcancel).trans hu, by simpa using hutrace,
    outputsEnabled_of_high huhigh, (runSteps_succ_of_next 3 hcancel).trans hv, outputsEnabled_of_high hvhigh,
    (runSteps_succ_of_next 4 hcancel).trans ht, by simpa using httrace, htphase, htqueue, fun r => ?_,
    by simpa using htfault, htinputs⟩
  rw [htlevel, htcfg]
  exact ⟨RoleFile.get_all .., RoleFile.get_all ..⟩

end Sys2Proof.Machine

/-!
# Commands that reach the chip

`Moves lv c q lv' c'`: the events `q` lead the levels and the chip from `lv` and `c` to `lv'` and `c'`, whatever the free
values are. A shifted value moves SR by its width and puts itself below (60_exceptions.md R231), so sixteen of them are
the frame that the LATCH pulse commits (R232); grayscale pulses count (R234).
-/

namespace Sys2Proof.Machine

/-! ## The chip along a list of events -/

/-- The chip after the events `q`, each reaching its line; `emitAll_chip` ties it to the run. -/
def Chip.observeAll : List Event → RoleFile LineLevel → Nat → Chip → Chip
  | [], _, _, c => c
  | e :: rest, lv, n, c => observeAll rest (levelsAfter e lv) (n + 1) (c.observe lv n e)

theorem emitAll_chip (q : List Event) (s : State) : (emitAll q s).chip = s.chip.observeAll q s.level s.draws := by
  induction q generalizing s with
  | nil => rfl
  | cons e rest ih => simp [emitAll, ih, Chip.observeAll]

theorem Chip.observeAll_append (p q : List Event) (lv : RoleFile LineLevel) (n : Nat) (c : Chip) :
    c.observeAll (p ++ q) lv n = (c.observeAll p lv n).observeAll q (levelsAfterAll p lv) (n + p.length) := by
  induction p generalizing lv n c with
  | nil => rfl
  | cons e rest ih =>
    simp only [List.cons_append, Chip.observeAll, ih, levelsAfterAll_cons, List.length_cons, Nat.add_assoc,
      Nat.add_comm 1]

/-- The events `q` lead from the levels `lv` and the chip `c` to `lv'` and `c'`, whatever the free values are. -/
structure Moves (lv : RoleFile LineLevel) (c : Chip) (q : List Event) (lv' : RoleFile LineLevel) (c' : Chip) :
    Prop where
  levels : levelsAfterAll q lv = lv'
  chip : ∀ n, c.observeAll q lv n = c'

theorem Moves.nil (lv : RoleFile LineLevel) (c : Chip) : Moves lv c [] lv c := ⟨rfl, fun _ => rfl⟩

theorem Moves.append {lv lv' lv'' : RoleFile LineLevel} {c c' c'' : Chip} {p q : List Event}
    (hp : Moves lv c p lv' c') (hq : Moves lv' c' q lv'' c'') : Moves lv c (p ++ q) lv'' c'' where
  levels := by rw [levelsAfterAll_append, hp.levels, hq.levels]
  chip n := by rw [Chip.observeAll_append, hp.chip, hp.levels, hq.chip]

/-! ## Shifting -/

/-- One triple shifts its bit into SR (60_exceptions.md R231). -/
theorem moves_shiftTriple (b : Bool) {lv : RoleFile LineLevel} (c : Chip) (hclk : lv.clk = .low) :
    Moves lv c [.write .serial (levelOfBit b), .write .clk .high, .write .clk .low]
      { lv with serial := lineLevelOf (levelOfBit b) } { c with sr := c.sr.shiftConcat b } := by
  obtain ⟨bl, p, la, g, se, k⟩ := lv
  cases hclk
  cases b <;> exact ⟨rfl, fun _ => rfl⟩

/-- The highest of `k + 1` bits, shifted in before the others. -/
theorem shiftConcat_shiftLeft_or (x : BitVec 192) (v k : Nat) :
    (x.shiftConcat (v.testBit k) <<< k) ||| BitVec.ofNat 192 (v % 2 ^ k) =
      (x <<< (k + 1)) ||| BitVec.ofNat 192 (v % 2 ^ (k + 1)) := by
  refine BitVec.eq_of_getLsbD_eq fun i hi => ?_
  simp only [BitVec.getLsbD_or, BitVec.getLsbD_shiftLeft, BitVec.getLsbD_shiftConcat, BitVec.getLsbD_ofNat,
    Nat.testBit_mod_two_pow, hi, decide_true, Bool.true_and]
  obtain hlt | rfl | hgt := Nat.lt_trichotomy i k
  · simp [hlt, Nat.lt_succ_of_lt hlt]
  · simp
  · simp [show ¬ i < k by omega, show ¬ i < k + 1 by omega, show i - k ≠ 0 by omega, show i - k < 192 by omega,
      Nat.sub_sub]

/-- A value of `w + 1` bits moves SR up by its width and stands below; SERIAL is left at its last bit. -/
theorem moves_shiftValue (v w : Nat) {lv : RoleFile LineLevel} (c : Chip) (hclk : lv.clk = .low) :
    Moves lv c (shiftValue v (w + 1)) { lv with serial := lineLevelOf (levelOfBit (v.testBit 0)) }
      { c with sr := (c.sr <<< (w + 1)) ||| BitVec.ofNat 192 (v % 2 ^ (w + 1)) } := by
  induction w generalizing lv c with
  | zero =>
    rw [← shiftConcat_shiftLeft_or, pow_zero, Nat.mod_one, BitVec.shiftLeft_zero, BitVec.or_zero]
    exact moves_shiftTriple (v.testBit 0) c hclk
  | succ k ih =>
    rw [← shiftConcat_shiftLeft_or]
    exact (moves_shiftTriple (v.testBit (k + 1)) c hclk).append
      (ih (lv := { lv with serial := lineLevelOf (levelOfBit (v.testBit (k + 1))) })
        { c with sr := c.sr.shiftConcat (v.testBit (k + 1)) } hclk)

/-- SR moved up by the values `vs` of `w` bits, which stand below. -/
def Chip.shiftedIn (w : Nat) (vs : List Nat) (c : Chip) : Chip :=
  { c with sr := (c.sr <<< (w * vs.length)) ||| concatValues w 192 vs }

theorem Chip.shiftedIn_nil (w : Nat) (c : Chip) : c.shiftedIn w [] = c := by simp [Chip.shiftedIn, concatValues]

theorem Chip.shiftedIn_append_singleton (w : Nat) (vs : List Nat) (v : Nat) (c : Chip) :
    c.shiftedIn w (vs ++ [v]) =
      { c with sr := ((c.shiftedIn w vs).sr <<< w) ||| BitVec.ofNat 192 v } := by
  simp only [Chip.shiftedIn, concatValues_append_singleton, List.length_append, List.length_singleton, Nat.mul_succ,
    BitVec.shiftLeft_or_distrib, BitVec.shiftLeft_add, BitVec.or_assoc]

/-- SHIFTOUT puts the concatenation of its values below what SR held, and leaves SERIAL at the last bit
(40_sequencer.md R108; 60_exceptions.md R231). -/
theorem moves_shiftOut {vs : List Nat} {w : Nat} (hvs : ∀ v ∈ vs, v < 2 ^ (w + 1)) {lv : RoleFile LineLevel} (c : Chip)
    (hclk : lv.clk = .low) :
    ∃ x, (∀ v, vs.getLast? = some v → x = lineLevelOf (levelOfBit (v.testBit 0))) ∧
      Moves lv c (shiftOut vs (w + 1)) { lv with serial := x } (c.shiftedIn (w + 1) vs) := by
  induction vs using List.reverseRecOn with
  | nil => exact ⟨lv.serial, nofun, by rw [Chip.shiftedIn_nil]; exact Moves.nil lv c⟩
  | append_singleton vs v ih =>
    obtain ⟨x, -, hx⟩ := ih fun u hu => hvs u (by simp [hu])
    have hv := moves_shiftValue v w (lv := { lv with serial := x }) (c.shiftedIn (w + 1) vs) hclk
    rw [Nat.mod_eq_of_lt (hvs v (by simp))] at hv
    refine ⟨lineLevelOf (levelOfBit (v.testBit 0)), fun u hu => ?_, ?_⟩
    · obtain rfl : v = u := by simpa using hu
      rfl
    · rw [shiftOut_append, Chip.shiftedIn_append_singleton, shiftOut, shiftOut, List.append_nil]
      exact hx.append hv

/-! ## Committing -/

/-- What a LATCH HIGH does with PROG at `l` (60_exceptions.md R232). -/
def Chip.latched (l : Level) (c : Chip) : Chip :=
  match l with
  | .high => { c with dcr := c.sr.extractLsb' 0 96 }
  | .low => { c with gsl := c.sr }

theorem moves_latchPulse (l : Level) {lv : RoleFile LineLevel} (c : Chip) (hlatch : lv.latch = .low)
    (hprog : lv.prog = lineLevelOf l) : Moves lv c (pulseOf .latch) lv (c.latched l) := by
  obtain ⟨bl, p, la, g, se, k⟩ := lv
  cases hlatch
  cases hprog
  cases l <;> exact ⟨rfl, fun _ => rfl⟩

theorem moves_prog (l : Level) (lv : RoleFile LineLevel) (c : Chip) :
    Moves lv c [.write .prog l] { lv with prog := lineLevelOf l } c := by
  cases l <;> exact ⟨rfl, fun _ => rfl⟩

theorem slotValues_getLast? {w : Nat} (f : Vector (BitVec w) 16) : (slotValues f).getLast? = some f[15].toNat := by
  rw [List.getLast?_eq_getElem?, slotValues_length]
  simp [slotValues]

/-- WRDOT's and WRGREY's events commit the sixteen slots, shifted in below what SR held, to the register PROG selects
(43_serial_writes.md R150, R151, R155). -/
theorem moves_latchedFrame {w : Nat} (l : Level) (f : Vector (BitVec (w + 1)) 16) {lv : RoleFile LineLevel} (c : Chip)
    (hclk : lv.clk = .low) (hlatch : lv.latch = .low) :
    Moves lv c ([.write .prog l] ++ shiftOut (slotValues f) (w + 1) ++ pulseOf .latch)
      ⟨lv.blank, lineLevelOf l, .low, lv.gsclk, if f[15].getLsbD 0 then .high else .low, .low⟩
      ((c.shiftedIn (w + 1) (slotValues f)).latched l) := by
  obtain ⟨x, hx, hshift⟩ := moves_shiftOut (slotValues_lt f) (lv := { lv with prog := lineLevelOf l }) c hclk
  have hlast : x = if f[15].getLsbD 0 then .high else .low := by
    rw [hx _ (slotValues_getLast? f), BitVec.testBit_toNat]
    cases f[15].getLsbD 0 <;> rfl
  obtain ⟨bl, p, la, g, se, k⟩ := lv
  cases hclk
  cases hlatch
  rw [hlast] at hshift
  exact ((moves_prog l _ c).append hshift).append (moves_latchPulse l _ rfl rfl)

/-- Ninety-six shifted bits are the whole of what DCR takes (60_exceptions.md R232, R235). -/
theorem shiftedIn_dotFrame (d : Vector (BitVec 6) 16) (c : Chip) :
    (c.shiftedIn 6 (slotValues d)).sr.extractLsb' 0 96 = dotFrame d := by
  refine BitVec.eq_of_getLsbD_eq fun i hi => ?_
  have hi' : i < 192 := by omega
  rw [BitVec.getLsbD_extractLsb', dotFrame, concatValues_getLsbD (by decide) (slotValues_lt d) hi]
  simp only [Chip.shiftedIn, slotValues_length, BitVec.getLsbD_or, BitVec.getLsbD_shiftLeft, Nat.zero_add,
    concatValues_getLsbD (by decide) (slotValues_lt d) hi']
  simp [hi]

/-- A hundred and ninety-two shifted bits are the whole of SR (60_exceptions.md R235). -/
theorem shiftedIn_greyFrame (g : Vector (BitVec 12) 16) (c : Chip) :
    (c.shiftedIn 12 (slotValues g)).sr = greyFrame g := by
  rw [Chip.shiftedIn, slotValues_length, greyFrame]
  simp [BitVec.shiftLeft_eq_zero]

/-! ## Counting -/

/-- Grayscale pulses with BLANK LOW count, up to 4096 (60_exceptions.md R234). -/
theorem moves_gsclkPulses {n : Nat} {lv : RoleFile LineLevel} {c : Chip} (hblank : lv.blank = .low)
    (hgs : lv.gsclk = .low) (hn : c.gscnt + n ≤ 4096) :
    Moves lv c (repeatEvents n (pulseOf .gsclk)) lv { c with gscnt := c.gscnt + n } := by
  induction n generalizing c with
  | zero => exact Moves.nil lv c
  | succ n ih =>
    have hfirst : Moves lv c (pulseOf .gsclk) lv { c with gscnt := c.gscnt + 1 } := by
      obtain ⟨bl, p, la, g, se, k⟩ := lv
      cases hblank
      cases hgs
      have hcount : c.countEdge = { c with gscnt := c.gscnt + 1 } := by
        rw [Chip.countEdge, Nat.min_eq_right (by omega)]
      exact ⟨rfl, fun _ => hcount⟩
    have hrest := ih (c := { c with gscnt := c.gscnt + 1 }) (by simp only; omega)
    rw [show c.gscnt + (n + 1) = c.gscnt + 1 + n by omega]
    exact hfirst.append hrest

/-- The first grayscale pulse after a BLANK HIGH counts from GSCLK LOW, and may count from a GSCLK not yet written
(60_exceptions.md R234, R259). -/
theorem firstEdge_count {lv : RoleFile LineLevel} (n : Nat) (c : Chip) (hblank : lv.blank = .low)
    (hgs : lv.gsclk = .low ∨ lv.gsclk = .unknown) :
    ∃ g ≤ 1, c.startCycle.greyEdge lv n = { c.startCycle with gscnt := g } ∧ (lv.gsclk = .low → g = 1) := by
  obtain h | h := hgs
  · exact ⟨1, Nat.le_refl 1, by simp [Chip.greyEdge, hblank, h, Chip.countEdge, Chip.startCycle], fun _ => rfl⟩
  · by_cases hfree : Config.freeEdgeCounts n = true
    · exact ⟨1, Nat.le_refl 1, by simp [Chip.greyEdge, hblank, h, hfree, Chip.countEdge, Chip.startCycle],
        fun _ => rfl⟩
    · exact ⟨0, Nat.zero_le 1, by simp [Chip.greyEdge, hblank, h, hfree, Chip.startCycle], by simp [h]⟩

/-- A BLANK pulse and `m + 1` grayscale pulses: the active register is the latched one, and the count is `m` or `m + 1`
(60_exceptions.md R234). -/
theorem observeAll_blankPulse_gsclkPulses {m : Nat} (hm : m + 1 ≤ 4096) {lv : RoleFile LineLevel} (n : Nat) (c : Chip)
    (hgs : lv.gsclk = .low ∨ lv.gsclk = .unknown) :
    ∃ g ≤ 1, c.observeAll (pulseOf .blank ++ repeatEvents (m + 1) (pulseOf .gsclk)) lv n =
        { c with gsa := c.gsl, gscnt := g + m } ∧ (lv.gsclk = .low → g = 1) := by
  obtain ⟨g, hg, hedge, hlow⟩ := firstEdge_count (lv := { lv with blank := .low }) (n + 2) c rfl hgs
  have hrest := moves_gsclkPulses (n := m) (lv := { lv with blank := .low, gsclk := .low })
    (c := { c.startCycle with gscnt := g }) rfl rfl (by simp only; omega)
  refine ⟨g, hg, ?_, hlow⟩
  have hfirst : c.observeAll (pulseOf .blank ++ repeatEvents (m + 1) (pulseOf .gsclk)) lv n =
      (c.startCycle.greyEdge { lv with blank := .low } (n + 2)).observeAll (repeatEvents m (pulseOf .gsclk))
        { lv with blank := .low, gsclk := .low } (n + 4) := rfl
  rw [hfirst, hedge, hrest.chip]
  rfl

/-! ## The lifecycles along a list of events -/

/-- GLC after the events `q` of the command `cur`; `emitAll_glc` ties it to the run. -/
def greyLifeAlong (cur : Option Word) : List Event → GreyLife → GreyLife
  | [], g => g
  | e :: rest, g => greyLifeAlong cur rest (greyLifeAfter cur e rest g)

/-- DLC after the events `q` of the command `cur`; `emitAll_dlc` ties it to the run. -/
def dotLifeAlong (cur : Option Word) : List Event → DotLife → DotLife
  | [], d => d
  | e :: rest, d => dotLifeAlong cur rest (dotLifeAfter cur e d)

/-- CUR is the command's word until its last event is made (40_sequencer.md R106). -/
theorem emitAll_glc (q : List Event) (s : State) : (emitAll q s).glc = greyLifeAlong s.cur q s.glc := by
  induction q generalizing s with
  | nil => rfl
  | cons e rest ih =>
    rw [emitAll, ih]
    cases rest <;> simp [greyLifeAlong]

theorem emitAll_dlc (q : List Event) (s : State) : (emitAll q s).dlc = dotLifeAlong s.cur q s.dlc := by
  induction q generalizing s with
  | nil => rfl
  | cons e rest ih =>
    rw [emitAll, ih]
    cases rest <;> simp [dotLifeAlong]

/-- GLC stays unless the command is WRGREY with a frame not yet latched, or PULSE (10_state.md R33). -/
theorem greyLifeAlong_eq_self {cur : Option Word} {g : GreyLife} (hgrey : cur = some 0x6#64 → g ≠ .shiftedNotLatched)
    (hpulse : cur ≠ some 0x7#64) (q : List Event) : greyLifeAlong cur q g = g := by
  induction q with
  | nil => rfl
  | cons e rest ih =>
    have hkeep : greyLifeAfter cur e rest g = g := by
      by_contra hne
      obtain ⟨hcur, -, hg⟩ | ⟨hcur, -⟩ := greyLifeAfter_ne_self hne
      · exact hgrey hcur hg
      · exact hpulse hcur
    rw [greyLifeAlong, hkeep, ih]

/-- WRGREY's LATCH HIGH latches the shifted frame (10_state.md R33). -/
theorem greyLifeAlong_wrgrey {q : List Event} (hq : .write .latch .high ∈ q) :
    greyLifeAlong (some 0x6#64) q .shiftedNotLatched = .latchedPendingRefresh := by
  induction q with
  | nil => cases hq
  | cons e rest ih =>
    rw [greyLifeAlong]
    by_cases he : e = .write .latch .high
    · rw [he, greyLifeAfter_wrgrey_latch]
      exact greyLifeAlong_eq_self (fun _ => by decide) (by decide) rest
    · have hkeep : greyLifeAfter (some 0x6#64) e rest .shiftedNotLatched = .shiftedNotLatched := by
        by_contra hne
        obtain ⟨-, h, -⟩ | ⟨h, -⟩ := greyLifeAfter_ne_self hne
        · exact he h
        · exact absurd h (by decide)
      rw [hkeep]
      exact ih ((List.mem_cons.1 hq).resolve_left (Ne.symm he))

/-- PULSE's last event shows the latched frame (10_state.md R33). -/
theorem greyLifeAlong_pulse {q : List Event} (hq : q ≠ []) :
    greyLifeAlong (some 0x7#64) q .latchedPendingRefresh = .displayed := by
  induction q with
  | nil => exact absurd rfl hq
  | cons e rest ih =>
    rw [greyLifeAlong]
    by_cases hrest : rest = []
    · rw [hrest, greyLifeAfter_pulse_last e (.inl rfl)]
      rfl
    · have hkeep : greyLifeAfter (some 0x7#64) e rest .latchedPendingRefresh = .latchedPendingRefresh := by
        by_contra hne
        obtain ⟨h, -⟩ | ⟨-, h, -⟩ := greyLifeAfter_ne_self hne
        · exact absurd h (by decide)
        · exact hrest h
      rw [hkeep]
      exact ih hrest

/-- DLC stays unless the command is WRDOT and its frame is not yet active (10_state.md R34). -/
theorem dotLifeAlong_eq_self {cur : Option Word} {d : DotLife} (h : cur = some 0x5#64 → d = .latchedActive)
    (q : List Event) : dotLifeAlong cur q d = d := by
  induction q with
  | nil => rfl
  | cons e rest ih =>
    have hkeep : dotLifeAfter cur e d = d := by
      by_contra hne
      obtain ⟨rfl, rfl⟩ := dotLifeAfter_ne_self hne
      rw [dotLifeAfter_wrdot_latch, h rfl] at hne
      exact hne rfl
    rw [dotLifeAlong, hkeep, ih]

/-- WRDOT's LATCH HIGH makes the frame active (10_state.md R34). -/
theorem dotLifeAlong_wrdot {q : List Event} (hq : .write .latch .high ∈ q) (d : DotLife) :
    dotLifeAlong (some 0x5#64) q d = .latchedActive := by
  induction q generalizing d with
  | nil => cases hq
  | cons e rest ih =>
    rw [dotLifeAlong]
    by_cases he : e = .write .latch .high
    · rw [he, dotLifeAfter_wrdot_latch]
      exact dotLifeAlong_eq_self (fun _ => rfl) rest
    · exact ih ((List.mem_cons.1 hq).resolve_left (Ne.symm he)) _

/-! ## Commands run to their end -/

/-- An idle READY block has its lines settled (70_reset_and_hazards.md R256). -/
theorem State.ReadyIdle.settled {s : State} (h : s.ReadyIdle) : settled s.cfg s.level = true := by
  have hend := (h.inv.ready h.phase).2
  rwa [h.idle] at hend

/-- The block an idle READY block becomes by accepting `i`; `exec_of_ready` ties it to `exec`. -/
def State.accepting (i : Instr) (s : State) : State := loadEvents i (commandEvents i s) (commandPost i s)

/-- A command but CLEANUP that an idle READY block accepts emits its whole list (40_sequencer.md R106, R112). -/
theorem State.ReadyIdle.runSteps_accepting {s : State} (h : s.ReadyIdle) {i : Instr} (hi : i ≠ .cleanup) {n : Nat}
    (hn : (commandEvents i s).length = n) :
    runSteps n (s.accepting i) = .next (emitAll (commandEvents i s) (s.accepting i)) := by
  subst hn
  have hallowed := (settles_commandEvents h.inv.configOrder.2 h.settled hi).1
  refine runSteps_eq_emitAll rfl ?_ ?_ ?_ ?_
  · exact exec_ready_phase h.phase (exec_of_ready h.phase i)
  · simpa [State.accepting, State.hostQuiet] using h.quiet
  · exact (commandPost_answersOk i s).trans h.answers
  · simpa [State.accepting] using hallowed

theorem State.ReadyIdle.phase_emitAll_accepting {s : State} (h : s.ReadyIdle) {i : Instr} (hinit : i ≠ .init)
    (hcleanup : i ≠ .cleanup) : (emitAll (commandEvents i s) (s.accepting i)).phase = .ready := by
  simp [State.accepting, commandPost_phase, hinit, hcleanup, h.phase]

/-- The command that has events is the current one (40_sequencer.md R101). -/
theorem State.accepting_cur {s : State} {i : Instr} (hne : commandEvents i s ≠ []) :
    (s.accepting i).cur = some (encode i) := by simp [State.accepting, hne]

theorem latchHigh_mem_latchedFrame (p : List Event) : .write .latch .high ∈ p ++ pulseOf .latch :=
  List.mem_append_right p (List.mem_cons_self ..)

/-- A serial write of the slots `f` with PROG at `l`, run to its end (43_serial_writes.md R155; 60_exceptions.md R231,
R232). -/
theorem State.ReadyIdle.emitAll_latchedFrame {s : State} (h : s.ReadyIdle) {i : Instr} {w : Nat} {l : Level}
    {f : Vector (BitVec (w + 1)) 16}
    (hi : commandEvents i s = [.write .prog l] ++ shiftOut (slotValues f) (w + 1) ++ pulseOf .latch) :
    (emitAll (commandEvents i s) (s.accepting i)).chip = (s.chip.shiftedIn (w + 1) (slotValues f)).latched l ∧
      (emitAll (commandEvents i s) (s.accepting i)).level =
        ⟨s.level.blank, lineLevelOf l, .low, s.level.gsclk, if f[15].getLsbD 0 then .high else .low, .low⟩ := by
  obtain ⟨-, hclk, hlatch, -⟩ := (settled_iff _ _).1 h.settled
  obtain ⟨hlevels, hchip⟩ := moves_latchedFrame l f s.chip hclk hlatch
  have hlv : (s.accepting i).level = s.level := by simp [State.accepting]
  have hc : (s.accepting i).chip = s.chip := by simp [State.accepting]
  rw [emitAll_chip, emitAll_level, hlv, hc, hi]
  exact ⟨hchip _, hlevels⟩

/-- Settles O45: the slots are shifted in below what SR held, and with PROG HIGH the LATCH pulse commits them to DCR. -/
theorem wrdotReachesChip : Obligations.WrdotReachesChip := by
  intro s h
  obtain ⟨hchip, hlevel⟩ := h.emitAll_latchedFrame (i := .wrdot) (l := .high) (f := s.dot) rfl
  have hlength : (commandEvents .wrdot s).length = 291 := (wrdotEvents_length _).trans (by rw [slotValues_length])
  have hcur : (s.accepting .wrdot).cur = some 0x5#64 :=
    (State.accepting_cur (i := .wrdot) (wrdotEvents_ne_nil _)).trans (congrArg some encode_wrdot)
  have hdcr : ((s.chip.shiftedIn 6 (slotValues s.dot)).latched .high).dcr = dotFrame s.dot :=
    shiftedIn_dotFrame s.dot s.chip
  refine ⟨_, _, exec_of_ready h.phase .wrdot, h.runSteps_accepting (by decide) hlength, ?_⟩
  rw [hchip, hdcr]
  refine ⟨rfl, fun c hc => frame_channel s.dot (by decide) hc, rfl, rfl, rfl, hlevel, ?_, ?_,
    h.phase_emitAll_accepting (by decide) (by decide), emitAll_queue rfl⟩
  · rw [emitAll_dlc, hcur]
    exact dotLifeAlong_wrdot (latchHigh_mem_latchedFrame _) _
  · rw [emitAll_glc, hcur]
    exact greyLifeAlong_eq_self (by simp) (by decide) _

/-- Settles O46: the slots fill the whole of SR, and with PROG LOW the LATCH pulse commits them to GSL. -/
theorem wrgreyReachesChip : Obligations.WrgreyReachesChip := by
  intro s h
  obtain ⟨hchip, hlevel⟩ := h.emitAll_latchedFrame (i := .wrgrey) (l := .low) (f := s.grey) rfl
  have hlength : (commandEvents .wrgrey s).length = 579 := (wrgreyEvents_length _).trans (by rw [slotValues_length])
  have hcur : (s.accepting .wrgrey).cur = some 0x6#64 :=
    (State.accepting_cur (i := .wrgrey) (wrgreyEvents_ne_nil _)).trans (congrArg some encode_wrgrey)
  have hgsl : ((s.chip.shiftedIn 12 (slotValues s.grey)).latched .low).gsl = greyFrame s.grey :=
    shiftedIn_greyFrame s.grey s.chip
  refine ⟨_, _, exec_of_ready h.phase .wrgrey, h.runSteps_accepting (by decide) hlength, ?_⟩
  rw [hchip, hgsl]
  refine ⟨rfl, fun c hc => frame_channel s.grey (by decide) hc, rfl, rfl, rfl, hlevel, ?_, ?_,
    h.phase_emitAll_accepting (by decide) (by decide), emitAll_queue rfl⟩
  · rw [emitAll_glc, hcur]
    exact greyLifeAlong_wrgrey (latchHigh_mem_latchedFrame _)
  · rw [emitAll_dlc, hcur]
    exact dotLifeAlong_eq_self (fun hw => absurd hw (by decide)) _

/-- Settles O47: BLANK HIGH makes the latched frame active and clears the count, which the pulses then raise. -/
theorem pulseShowsLatchedGrey : Obligations.PulseShowsLatchedGrey := by
  intro s h
  obtain ⟨-, -, -, -, -, -, hgs⟩ := (settled_iff _ _).1 h.settled
  have hlength : (commandEvents .pulse s).length = 8194 := pulseEvents_length
  have hcur : (s.accepting .pulse).cur = some 0x7#64 :=
    (State.accepting_cur (i := .pulse) pulseEvents_ne_nil).trans (congrArg some encode_pulse)
  obtain ⟨g, hg, hobserve, hlow⟩ :=
    observeAll_blankPulse_gsclkPulses (m := 4095) (by decide) s.draws s.chip hgs
  have hchip : (emitAll (commandEvents .pulse s) (s.accepting .pulse)).chip =
      { s.chip with gsa := s.chip.gsl, gscnt := g + 4095 } := (emitAll_chip ..).trans hobserve
  refine ⟨_, _, exec_of_ready h.phase .pulse, h.runSteps_accepting (by decide) hlength, ?_⟩
  rw [hchip]
  refine ⟨rfl, rfl, rfl, rfl, fun hl => ?_, fun _ => ?_, ?_, fun hglc => ?_,
    h.phase_emitAll_accepting (by decide) (by decide), emitAll_queue rfl⟩
  · rw [hlow hl]
  · simp only
    omega
  · exact (emitAll_level ..).trans (leads_pulseEvents hgs).levels
  · rw [emitAll_glc, hcur]
    exact (congrArg _ hglc).trans (greyLifeAlong_pulse pulseEvents_ne_nil)

end Sys2Proof.Machine

/-!
# Block reset

A PINMAP is accepted exactly when it binds the six roles to distinct lines, and a step that samples block reset is
`construct` or a refusal by that alone; no other branch of a step refuses (70_reset_and_hazards.md R250, R251).
-/

namespace Sys2Proof.Machine

/-! ## The PINMAP a construction accepts -/

/-- A file of roles given role by role. -/
def RoleFile.ofRoles {α : Type} (f : Role → α) : RoleFile α :=
  ⟨f .blank, f .prog, f .latch, f .gsclk, f .serial, f .clk⟩

@[simp] theorem RoleFile.get_ofRoles {α : Type} (f : Role → α) : (RoleFile.ofRoles f).get = f :=
  funext fun r => by cases r <;> rfl

theorem boundPins_eq_some_iff {req : RoleFile (Option Nat)} {p : RoleFile Nat} :
    boundPins req = some p ↔ ∀ r, req.get r = some (p.get r) := by
  constructor
  · intro h
    unfold boundPins at h
    split at h
    · cases h
      intro r
      cases r <;> assumption
    · cases h
  · intro h
    have hreq : req = .ofRoles fun r => some (p.get r) := RoleFile.ext_get fun r => by rw [h r, RoleFile.get_ofRoles]
    rw [hreq]
    rfl

/-- Distinct lines are a line for each role and no two alike (10_state.md R24). -/
theorem pinsDistinct_iff {p : RoleFile Nat} : pinsDistinct p = true ↔ ∀ r q, p.get r = p.get q → r = q := by
  obtain ⟨-, hall⟩ := defaultConfigOrder_complete
  have hlines : pinsDistinct p = true ↔ (Config.defaultConfigOrder.map p.get).Nodup := decide_eq_true_iff
  rw [hlines, List.nodup_map_iff_inj_on (by decide)]
  exact ⟨fun h r q => h r (hall r) q (hall q), fun h r _ q _ => h r q⟩

theorem acceptedPins_eq_some_iff {req : RoleFile (Option Nat)} {p : RoleFile Nat} :
    acceptedPins req = some p ↔ BindsAllDistinct req p.get := by
  rw [BindsAllDistinct, ← boundPins_eq_some_iff, ← pinsDistinct_iff]
  unfold acceptedPins
  cases boundPins req with
  | none => simp
  | some q =>
    simp only [Option.ite_none_right_eq_some, Option.some.injEq]
    constructor
    · rintro ⟨hq, rfl⟩
      exact ⟨rfl, hq⟩
    · rintro ⟨rfl, hq⟩
      exact ⟨hq, rfl⟩

theorem acceptedPins_of_binds {req : RoleFile (Option Nat)} {line : Role → Nat} (h : BindsAllDistinct req line) :
    acceptedPins req = some (.ofRoles line) :=
  acceptedPins_eq_some_iff.2 (by rwa [RoleFile.get_ofRoles])

theorem acceptedPins_of_not_binds {req : RoleFile (Option Nat)} (h : ¬∃ line, BindsAllDistinct req line) :
    acceptedPins req = none :=
  Option.eq_none_iff_forall_ne_some.2 fun p hp => h ⟨p.get, acceptedPins_eq_some_iff.1 hp⟩

/-! ## The step that samples block reset -/

section

variable {s : State} {req : RoleFile (Option Nat)} (hr : s.sampled.rst = some req)
include hr

theorem step_of_reset_binds {line : Role → Nat} (h : BindsAllDistinct req line) :
    step s = .next (construct (.ofRoles line) s.dropInput) := by
  simp [step, stepOn, hr, resetBlock, acceptedPins_of_binds h]

theorem step_of_reset_not_binds (h : ¬∃ line, BindsAllDistinct req line) :
    step s = .refused .constructionRefused := by
  simp [step, stepOn, hr, resetBlock, acceptedPins_of_not_binds h]

end

/-- A line not yet written shows PRELEVEL while no fault is recorded (92_eei_decisions.md D17). -/
theorem lineShows_of_unknown {s : State} {r : Role} (hl : s.level.get r = .unknown) (hf : s.fault = clearRecord) :
    s.lineShows r = some (Config.preLevel s.preDraw r) := by
  have hdoubt : s.lineInDoubt r = false := by
    rw [State.lineInDoubt, hf]
    rfl
  simp [State.lineShows, hl, hdoubt]

/-- Settles O54: every entry of the table is a field of `State.reset`. -/
theorem resetStateTable : Obligations.ResetStateTable :=
  ⟨fun _ hk => ⟨Vector.getElem_replicate hk, Vector.getElem_replicate hk⟩, rfl,
    fun r => ⟨RoleFile.get_all LineLevel.unknown r, RoleFile.get_all false r⟩, rfl, rfl, rfl, rfl, rfl, rfl, rfl, rfl,
    rfl⟩

/-- Settles O53: the step is `construct`, whose registers are those of `State.reset`. -/
theorem blockResetConstructs : Obligations.BlockResetConstructs := by
  intro s req line hr hline
  obtain ⟨hvalues, hfirst, hlines, hphase, hcur, hqueue, hidx, -, htrace, hfault, hglc, hdlc⟩ := resetStateTable
  refine ⟨_, step_of_reset_binds hr hline, hvalues, hfirst, fun r => ?_, hphase, hcur, hqueue, hidx, htrace, hfault,
    hglc, hdlc, fun r => lineShows_of_unknown (hlines r).1 hfault, rfl, rfl, rfl⟩
  exact ⟨(hlines r).1, (hlines r).2, by rw [construct_pins, RoleFile.get_ofRoles]⟩

/-! ## What a step refuses -/

theorem acceptWord_next (w : Word) (s : State) : ∃ t, acceptWord w s = .next t := by
  unfold acceptWord
  split
  · exact ⟨_, rfl⟩
  · exact exec_next ..

theorem presentWord_next (w : Word) (s : State) : ∃ t, presentWord w s = .next t := by
  unfold presentWord
  split
  · exact ⟨_, rfl⟩
  · exact acceptWord_next w s

/-- Without block reset every branch of a step answers a next state (40_sequencer.md R100). -/
theorem stepOn_next_of_no_reset {h : HostInput} (hr : h.rst = none) (s : State) : ∃ t, stepOn h s = .next t := by
  rw [stepOn, hr]
  dsimp only
  split
  · exact ⟨_, rfl⟩
  · split
    · exact ⟨_, rfl⟩
    · split
      · exact presentWord_next ..
      · split
        · exact ⟨_, rfl⟩
        · exact ⟨_, rfl⟩

/-- Settles O55: without block reset a step answers a next state, and with it the PINMAP decides. -/
theorem onlyBadConstructionIsRefused : Obligations.OnlyBadConstructionIsRefused := by
  intro s
  cases hr : s.sampled.rst with
  | none =>
    obtain ⟨t, ht⟩ : ∃ t, step s = .next t := stepOn_next_of_no_reset hr _
    simp [ht]
  | some req =>
    by_cases h : ∃ line, BindsAllDistinct req line
    · simp [step_of_reset_binds hr h.choose_spec, h]
    · have hrefused := step_of_reset_not_binds hr h
      exact ⟨⟨fun _ => ⟨req, rfl, h⟩, fun _ => hrefused⟩, fun hne => absurd hrefused hne⟩

end Sys2Proof.Machine

/-!
# The first INIT

INIT from UNINIT run to its end: `moves_initEvents` gives the levels and the chip that its events leave, whatever the
levels before them (70_reset_and_hazards.md R254).
-/

namespace Sys2Proof.Machine

/-! ## The chip along RESET's and INIT's events -/

/-- DOT at its default values (10_state.md R20). -/
def defaultDot : Vector (BitVec 6) 16 := Vector.replicate 16 0x3F#6

/-- GREY at its default values (10_state.md R21). -/
def defaultGrey : Vector (BitVec 12) 16 := Vector.replicate 16 0xFFF#12

theorem moves_preamble (lv : RoleFile LineLevel) (c : Chip) :
    Moves lv c preamble ⟨.high, .low, .low, lv.gsclk, .low, .low⟩ c.startCycle := ⟨rfl, fun _ => rfl⟩

/-- The one-shot CLK pulse shifts SR and nothing else (41_init_reset.md R122). -/
theorem moves_oneShot (first : Bool) {lv : RoleFile LineLevel} (c : Chip) (hclk : lv.clk = .low)
    (hser : lv.serial = .high) : ∃ sr, Moves lv c (oneShot first) lv { c with sr := sr } := by
  cases first with
  | false => exact ⟨c.sr, Moves.nil lv c⟩
  | true =>
    obtain ⟨b, p, la, g, se, k⟩ := lv
    cases hclk
    cases hser
    exact ⟨c.sr.shiftConcat true, rfl, fun _ => rfl⟩

/-- RESET's events latch both default frames (41_init_reset.md R121; 60_exceptions.md R232). -/
theorem moves_resetEvents (first : Bool) (lv : RoleFile LineLevel) (c : Chip) :
    ∃ c', c'.dcr = dotFrame defaultDot ∧ c'.gsl = greyFrame defaultGrey ∧
      Moves lv c (resetEvents first) ⟨.high, .low, .low, lv.gsclk, .high, .low⟩ c' := by
  have hdot := moves_latchedFrame .high defaultDot (lv := ⟨.high, .low, .low, lv.gsclk, .low, .low⟩) c.startCycle
    rfl rfl
  have hgrey := moves_latchedFrame .low defaultGrey (lv := ⟨.high, .high, .low, lv.gsclk, .high, .low⟩)
    ((c.startCycle.shiftedIn 6 (slotValues defaultDot)).latched .high) rfl rfl
  obtain ⟨sr, hone⟩ := moves_oneShot first (lv := ⟨.high, .low, .low, lv.gsclk, .high, .low⟩)
    ((((c.startCycle.shiftedIn 6 (slotValues defaultDot)).latched .high).shiftedIn 12
      (slotValues defaultGrey)).latched .low) rfl rfl
  exact ⟨_, shiftedIn_dotFrame defaultDot c.startCycle, shiftedIn_greyFrame defaultGrey _,
    (((moves_preamble lv c).append hdot).append hgrey).append hone⟩

/-- Configure calls reach neither the lines' levels nor the chip (60_exceptions.md R230). -/
theorem moves_configure (order : List Role) (lv : RoleFile LineLevel) (c : Chip) :
    Moves lv c (order.map Event.configure) lv c := by
  induction order with
  | nil => exact Moves.nil lv c
  | cons r rest ih => exact Moves.append (p := [.configure r]) ⟨rfl, fun _ => rfl⟩ ih

/-- INIT's events latch both default frames (41_init_reset.md R120). -/
theorem moves_initEvents (order : List Role) (first : Bool) (lv : RoleFile LineLevel) (c : Chip) :
    ∃ c', c'.dcr = dotFrame defaultDot ∧ c'.gsl = greyFrame defaultGrey ∧
      Moves lv c (initEvents order first) ⟨.high, .low, .low, lv.gsclk, .high, .low⟩ c' := by
  obtain ⟨c', hdcr, hgsl, hreset⟩ := moves_resetEvents first lv c
  exact ⟨c', hdcr, hgsl, (moves_configure order lv c).append hreset⟩

/-- INIT's events leave every role configured (41_init_reset.md R120). -/
theorem cfgAfterAll_initEvents {order : List Role} (ho : ∀ r, r ∈ order) (first : Bool) (cfg : RoleFile Bool) :
    cfgAfterAll (initEvents order first) cfg = allConfigured := by
  obtain ⟨-, -, -, hreset, -⟩ := leads_resetEvents first (RoleFile.all .unknown)
  rw [initEvents, cfgAfterAll_append, cfgAfterAll_configure_complete ho, hreset]

theorem initEvents_ne_nil (order : List Role) (first : Bool) : initEvents order first ≠ [] :=
  List.append_ne_nil_of_right_ne_nil _ (resetEvents_ne_nil first)

/-- The first INIT makes 883 events (70_reset_and_hazards.md R263). -/
theorem initEvents_length_first {order : List Role} (ho : order.length = 6) : (initEvents order true).length = 883 := by
  rw [initEvents, resetEvents, List.length_append, List.length_append, length_before_oneShot, List.length_map, ho]
  rfl

/-! ## The run -/

/-- UNINIT takes INIT's events with FIRST 1 (41_init_reset.md R122). -/
theorem State.Inv.accepting_init_queue {s : State} (h : s.Inv) (hp : s.phase = .uninit) :
    (s.accepting .init).queue = initEvents s.configOrder true := by
  obtain ⟨hfirst, -⟩ := h.uninit hp
  exact congrArg (initEvents s.configOrder) hfirst

/-- UNINIT accepts INIT, and the run emits all its events (40_sequencer.md R106, R112). -/
theorem State.Inv.run_firstInit {s : State} (h : s.Inv) (hp : s.phase = .uninit) (hquiet : s.hostQuiet = true)
    (hans : s.answersOk = true) :
    exec .init s = .next (s.accepting .init) ∧
      runSteps 883 (s.accepting .init) =
        .next (Machine.emitAll (initEvents s.configOrder true) (s.accepting .init)) := by
  obtain ⟨-, hidle, -⟩ := h.uninit hp
  have hadmit : admission s.phase .init = .accept := (admission_eq_accept_iff _ _).2 (.inl ⟨hp, rfl⟩)
  have hinv : (s.accepting .init).Inv := h.loadEvents hidle hadmit
  obtain ⟨hallowed, -⟩ := hinv.ready rfl
  rw [h.accepting_init_queue hp] at hallowed
  refine ⟨accept_of_admission hadmit, ?_⟩
  rw [← initEvents_length_first h.configOrder.1]
  exact runSteps_eq_emitAll (h.accepting_init_queue hp) nofun hquiet hans hallowed

/-- Settles O56: the run emits INIT's events from the constructed block, whose lines are unwritten and whose TRACE is
empty. -/
theorem stateAfterFirstInit : Obligations.StateAfterFirstInit := by
  intro s hinv hp hquiet hans
  obtain ⟨hexec, hrun⟩ := hinv.run_firstInit hp hquiet hans
  obtain ⟨-, -, htrace, -, hlevel, -⟩ := hinv.uninit hp
  obtain ⟨hsix, hall⟩ := hinv.configOrder
  obtain ⟨c, hdcr, hgsl, hmoves⟩ := moves_initEvents s.configOrder true (s.accepting .init).level s.chip
  have hcur : (s.accepting .init).cur = some 0x1#64 :=
    (State.accepting_cur (i := .init) (initEvents_ne_nil _ _)).trans (congrArg some encode_init)
  have hevents : (emitAll (initEvents s.configOrder true) (s.accepting .init)).trace =
      initEvents s.configOrder true :=
    (emitAll_trace ..).trans (congrArg (· ++ initEvents s.configOrder true) htrace)
  refine ⟨_, _, hexec, hrun, emitAll_phase .., fun k hk => ?_, emitAll_first .., fun r => ?_, ?_, ?_, ?_, ?_, ?_,
    emitAll_queue (hinv.accepting_init_queue hp), ?_, fun ch hch => ?_⟩
  · rw [emitAll_dot, emitAll_grey]
    exact ⟨Vector.getElem_replicate hk, Vector.getElem_replicate hk⟩
  · rw [emitAll_cfg, cfgAfterAll_initEvents hall, RoleFile.get_all]
  · rw [emitAll_level, hmoves.levels, State.accepting, loadEvents_level, commandPost_level, hlevel]
    rfl
  · rw [hevents, initEvents_length_first hsix]
  · rw [hevents]
    exact List.take_left' (by rw [List.length_map, hsix])
  · rw [emitAll_glc, hcur]
    exact greyLifeAlong_eq_self (by simp) (by decide) _
  · rw [emitAll_dlc, hcur]
    exact dotLifeAlong_eq_self (fun hw => absurd hw (by decide)) _
  · rw [emitAll_fault]
    exact hinv.recordClear (by simp [hp])
  · have hchip : (emitAll (initEvents s.configOrder true) (s.accepting .init)).chip = c :=
      (emitAll_chip ..).trans (hmoves.chip _)
    rw [hchip, hdcr, hgsl]
    exact ⟨(frame_channel defaultDot (by decide) hch).trans (Vector.getElem_replicate (by omega)),
      (frame_channel defaultGrey (by decide) hch).trans (Vector.getElem_replicate (by omega))⟩

end Sys2Proof.Machine

/-!
# How many events a command makes

`Counts q n clk gsclk`: the length of `q` and the two rising edges that 70_reset_and_hazards.md R263 counts. The counts
of a list are the sums of the counts of its pieces.
-/

namespace Sys2Proof.Machine

/-! ## Counts of the pieces -/

/-- `q` has `n` events, `clk` of them CLK HIGH and `gsclk` of them GSCLK HIGH. -/
structure Counts (q : List Event) (n clk gsclk : Nat) : Prop where
  length : q.length = n
  clkHigh : q.count (.write .clk .high) = clk
  gsclkHigh : q.count (.write .gsclk .high) = gsclk

theorem Counts.nil : Counts [] 0 0 0 := ⟨rfl, rfl, rfl⟩

theorem Counts.append {p q : List Event} {n n' clk clk' gsclk gsclk' : Nat} (hp : Counts p n clk gsclk)
    (hq : Counts q n' clk' gsclk') : Counts (p ++ q) (n + n') (clk + clk') (gsclk + gsclk') where
  length := by rw [List.length_append, hp.length, hq.length]
  clkHigh := by rw [List.count_append, hp.clkHigh, hq.clkHigh]
  gsclkHigh := by rw [List.count_append, hp.gsclkHigh, hq.gsclkHigh]

/-- SHIFTOUT leaves GSCLK alone (40_sequencer.md R108). -/
theorem count_gsclkHigh_shiftOut (vs : List Nat) (w : Nat) : (shiftOut vs w).count (.write .gsclk .high) = 0 := by
  refine List.count_eq_zero.2 fun h => ?_
  obtain ⟨r, l, he, hr⟩ := shiftOut_writes vs w _ h
  cases he
  simp at hr

theorem counts_shiftOut (vs : List Nat) (w : Nat) : Counts (shiftOut vs w) (3 * w * vs.length) (w * vs.length) 0 :=
  ⟨shiftOut_length vs w, count_clkHigh_shiftOut vs w, count_gsclkHigh_shiftOut vs w⟩

theorem counts_latchPulse : Counts (pulseOf .latch) 2 0 0 := ⟨rfl, rfl, rfl⟩

theorem counts_wrdotEvents (d : List Nat) : Counts (wrdotEvents d) (1 + 3 * 6 * d.length + 2) (0 + 6 * d.length) 0 :=
  (Counts.append (p := [.write .prog .high]) ⟨rfl, rfl, rfl⟩ (counts_shiftOut d 6)).append counts_latchPulse

theorem counts_wrgreyEvents (g : List Nat) :
    Counts (wrgreyEvents g) (1 + 3 * 12 * g.length + 2) (0 + 12 * g.length) 0 :=
  (Counts.append (p := [.write .prog .low]) ⟨rfl, rfl, rfl⟩ (counts_shiftOut g 12)).append counts_latchPulse

theorem counts_configure (order : List Role) : Counts (order.map Event.configure) order.length 0 0 := by
  induction order with
  | nil => exact Counts.nil
  | cons r rest ih =>
    rw [List.length_cons, Nat.add_comm]
    exact Counts.append (p := [.configure r]) ⟨rfl, rfl, rfl⟩ ih

theorem counts_repeatEvents {es : List Event} {m clk gsclk : Nat} (h : Counts es m clk gsclk) (n : Nat) :
    Counts (repeatEvents n es) (n * m) (n * clk) (n * gsclk) := by
  induction n with
  | zero =>
    simp only [Nat.zero_mul]
    exact Counts.nil
  | succ n ih =>
    simp only [Nat.succ_mul, Nat.add_comm (n * _)]
    exact h.append ih

/-! ## Counts of the commands -/

theorem counts_resetEvents (first : Bool) :
    Counts (resetEvents first) (eventCount first .reset) (clkHighCount first .reset) 0 := by
  have hpre : Counts preamble 5 0 0 := ⟨rfl, rfl, rfl⟩
  have hframes := (hpre.append (counts_wrdotEvents defaultDotValues)).append (counts_wrgreyEvents defaultGreyValues)
  cases first with
  | false => exact hframes.append Counts.nil
  | true => exact hframes.append (q := oneShot true) (n' := 2) (clk' := 1) (gsclk' := 0) ⟨rfl, rfl, rfl⟩

theorem counts_initEvents {order : List Role} (ho : order.length = 6) (first : Bool) :
    Counts (initEvents order first) (eventCount first .init) (clkHighCount first .init) 0 := by
  have h := (counts_configure order).append (counts_resetEvents first)
  rw [ho] at h
  cases first <;> exact h

theorem counts_pulseEvents : Counts pulseEvents 8194 0 4096 :=
  Counts.append (p := pulseOf .blank) (n := 2) (clk := 0) (gsclk := 0) ⟨rfl, rfl, rfl⟩
    (counts_repeatEvents (es := pulseOf .gsclk) (m := 2) (clk := 0) (gsclk := 1) ⟨rfl, rfl, rfl⟩ gsPulses)

/-- The events of every command have the counts of the table of 70_reset_and_hazards.md R263. -/
theorem counts_commandEvents {s : State} (ho : s.configOrder.length = 6) (i : Instr) :
    Counts (commandEvents i s) (eventCount s.first i) (clkHighCount s.first i) (gsclkHighCount i) := by
  cases i with
  | init => exact counts_initEvents ho s.first
  | reset => exact counts_resetEvents s.first
  | setdot ch val => exact Counts.nil
  | setgrey ch val => exact Counts.nil
  | wrdot =>
    have h := counts_wrdotEvents (slotValues s.dot)
    rwa [slotValues_length] at h
  | wrgrey =>
    have h := counts_wrgreyEvents (slotValues s.grey)
    rwa [slotValues_length] at h
  | pulse => exact counts_pulseEvents
  | blank lvl => cases lvl <;> exact ⟨rfl, rfl, rfl⟩
  | cleanup => exact ⟨rfl, rfl, rfl⟩

/-- Settles O57: the accepted command's queue is its list of events, which has the table's counts. -/
theorem eventCounts : Obligations.EventCounts := by
  intro s i ho hp
  have hadmit : admission s.phase i = .accept :=
    (admission_eq_accept_iff _ _).2 (hp.elim (fun h => .inr (.inl h)) .inl)
  obtain ⟨hlength, hclk, hgsclk⟩ := counts_commandEvents ho i
  exact ⟨s.accepting i, (exec_eq_accept_commandEvents i s).trans (accept_of_admission hadmit), hlength, hclk, hgsclk⟩

end Sys2Proof.Machine
